-- ==== Sys2Proof/Word.lean ====
section
/-! DEFINITION. The word types of the block: the operation word and the 8-bit fields, and the 32-bit code. -/

namespace Sys2Proof

/-- An operation word (R71, R81), or an 8-bit field: an address, a command or a byte of the code (R13). -/
abbrev Byte := BitVec 8

/-- The 32-bit unsigned code accumulated in `rawCode` (R13, R23). -/
abbrev Code := BitVec 32

end Sys2Proof
end

