-- ==== Sys2Proof/Config.lean ====
section
/-! DEFINITION. The configuration record of 00_scope.md section 3: the implementation parameters, with the spec's defaults. -/

namespace Sys2Proof

/-- The one configuration record a model takes (R6–R12). Counts of timer ticks are plain numbers: every comparison is
between unsigned integers (R15). A parameter the source leaves open carries the spec's default and its decision number
(assumption log entries 7 and 8); statements about the machine hold for every record. -/
structure Config where
  /-- LEAD_PULSE_MIN (R6): listed by the source, read by no rule (90_conflicts.md C1). -/
  leadPulseMin : Nat := 8800
  /-- LEAD_PULSE_MAX (R6). -/
  leadPulseMax : Nat := 9200
  /-- LEAD_SPACE_MIN (R6). -/
  leadSpaceMin : Nat := 4400
  /-- LEAD_SPACE_MAX (R6). -/
  leadSpaceMax : Nat := 4600
  /-- REPEATED_MIN (R6). -/
  repeatedMin : Nat := 2200
  /-- LOW_MIN (R6). -/
  lowMin : Nat := 460
  /-- LOW_MAX (R6). -/
  lowMax : Nat := 660
  /-- HIGH_MAX (R7): lost in the source, the spec's default (D4). -/
  highMax : Nat := 1790
  /-- LEAD_PULSE_LO (R8, D20): by default 2200, the value R6 gives REPEATED_MIN. DESIGN CHOICE (assumption log entry 7):
  the default is that number, and does not follow a record's own `repeatedMin`; R8 gives "`REPEATED_MIN` (2200)". -/
  leadPulseLo : Nat := 2200
  /-- TIMER_PERIOD (R9, D3). -/
  timerPeriod : Nat := 10000
  /-- TICK_US (R10, D29), in microseconds: read by no rule. DESIGN CHOICE (assumption log entry 8): it is a whole number
  of them, where R10 gives a reference value of about 1 and leaves open whether it may be a fraction. -/
  tickUs : Nat := 1
  /-- UPDATE_RESET_UNCONDITIONAL (R11, D10). -/
  updateResetUnconditional : Bool := false
  /-- TIMER_WIDTH (R12, D28): the width of `count`, at least what TIMER_PERIOD needs. -/
  timerWidth : Nat := 14
  deriving DecidableEq, Repr

/-- The default record of R6–R12. -/
def Config.default : Config := {}

end Sys2Proof
end

