-- ==== Sys2Proof/Syntax.lean ====
section
/-! DEFINITION. The operations of the block: one constructor per row of spec/opcode_table.json, and the reasons a word is refused. -/

namespace Sys2Proof

/-- The operations of R71. -/
inductive Instr where
  /-- EDGE (R100): one transition of the receiver pin. `level` is the operand `L`, the pin level the handler reads
  (`false` low, `true` high), free and not tied to the direction of the transition (R72, D18). -/
  | edge (level : Bool)
  /-- TICK (R141): one tick of the prescaled timer clock. -/
  | tick
  /-- OVF (R142): the Overflow Handler. -/
  | ovf
  /-- UPDATE (R161): the validation step, the first micro-step of RAW_CODE, ADDRESS and COMMAND. -/
  | update
  /-- CODE_RECEIVED (R163). -/
  | codeReceived
  /-- RAW_CODE (R164). -/
  | rawCode
  /-- ADDRESS (R165). -/
  | address
  /-- COMMAND (R166). -/
  | command
  /-- NEW_KEY_PRESSED (R167). -/
  | newKeyPressed
  /-- SKIP_THIS_CODE (R168). -/
  | skipThisCode
  deriving DecidableEq, Repr

/-- Why the block refuses a presented word (R203). -/
inductive WordRefusal where
  /-- A word that names no operation of R71 (R77). -/
  | illegalOp
  /-- The word of UPDATE presented on its own (R75, R77). -/
  | internalOp
  deriving DecidableEq, Repr

/-- The agent whose step an operation is (R71, R212). -/
inductive Agent where
  /-- The IR receiver and the tick clock. -/
  | environment
  /-- The Edge Handler's and Overflow Handler's context. -/
  | interruptContext
  /-- The normal-flow context of the façade. -/
  | host
  deriving DecidableEq, Repr

end Sys2Proof
end

