-- ==== Sys2Proof/WellFormed.lean ====
section
/-! DEFINITION. Well-formedness: which operations may be presented as a word of their own, and which configurations a model accepts. -/

namespace Sys2Proof

/-- An operation a script may present as a word: every one but UPDATE, which is internal (R75, R77, R84). -/
def Instr.wellFormed : Instr → Bool
  | .update => false
  | .edge _ | .tick | .ovf => true
  | .codeReceived | .rawCode | .address | .command | .newKeyPressed | .skipThisCode => true

/-- R12's condition on TIMER_WIDTH: the register holds every count of the period. -/
def Config.timerFits (c : Config) : Bool := decide (c.timerPeriod ≤ 2 ^ c.timerWidth)

/-- A configuration is well formed when its windows are ordered and the timer has a period (R14), and when TIMER_WIDTH
meets the condition R12 gives with the parameter (DEDUCED that such a record is refused alike: assumption log entry 8). -/
def Config.wellFormed (c : Config) : Bool :=
  decide (c.leadPulseLo ≤ c.leadPulseMax)
    && decide (c.repeatedMin ≤ c.leadSpaceMin) && decide (c.leadSpaceMin ≤ c.leadSpaceMax)
    && decide (c.lowMin ≤ c.lowMax) && decide (c.lowMax ≤ c.highMax)
    && decide (1 ≤ c.timerPeriod) && c.timerFits

end Sys2Proof
end

