-- ==== Sys2Proof/Decode.lean ====
section
/-! DEFINITION. The operation words of 30_encoding.md: encoder, the table of words, and the total decoder of R79. -/

namespace Sys2Proof

/-- The class of an operation word, `w[7:4]` (R71). -/
def wordClass (w : Byte) : BitVec 4 := w.extractLsb' 4 4

/-- The function of an operation word, `w[3:0]` (R71). -/
def wordFunction (w : Byte) : BitVec 4 := w.extractLsb' 0 4

/-- The only operand an operation word carries: `L = w[0]` of EDGE (R72, R80). -/
def wordLevel (w : Byte) : Bool := w.getLsbD 0

/-- The host operation that the function field of class 4 selects (R76). -/
def hostOp (f : BitVec 4) : Option Instr :=
  if f = 0 then some .codeReceived
  else if f = 1 then some .rawCode
  else if f = 2 then some .address
  else if f = 3 then some .command
  else if f = 4 then some .newKeyPressed
  else if f = 5 then some .skipThisCode
  else none

/-- The operation a word names, whether or not it may be presented on its own: the table of R71. -/
def opOfWord (w : Byte) : Option Instr :=
  if w = 0x10 ∨ w = 0x11 then some (.edge (wordLevel w))
  else if w = 0x20 then some .tick
  else if w = 0x30 then some .ovf
  else if w = 0x31 then some .update
  else if wordClass w = 4 then hostOp (wordFunction w)
  else none

/-- The decoder of R79, total on 8-bit words: the operation a presented word stands for, or why it is refused (R77). -/
def decode (w : Byte) : Except WordRefusal Instr :=
  match opOfWord w with
  | some i => if i.wellFormed then .ok i else .error .internalOp
  | none => .error .illegalOp

/-- The word of an operation: the table of R71, R72–R76. -/
def encode : Instr → Byte
  | .edge false => 0x10
  | .edge true => 0x11
  | .tick => 0x20
  | .ovf => 0x30
  | .update => 0x31
  | .codeReceived => 0x40
  | .rawCode => 0x41
  | .address => 0x42
  | .command => 0x43
  | .newKeyPressed => 0x44
  | .skipThisCode => 0x45

/-- The agent of an operation: the table of R71. -/
def Instr.agent : Instr → Agent
  | .edge _ | .tick => .environment
  | .ovf => .interruptContext
  | .update | .codeReceived | .rawCode | .address | .command | .newKeyPressed | .skipThisCode => .host

/-- An operation's word as the opcode table numbers it: every operation is exactly 8 bits long (R81), so a row's bits
are the whole word and bits above it are zero. -/
def tableByte (nbits w : Nat) : Byte := BitVec.ofNat 8 (w % 2 ^ nbits)

/-- What the decoder reads from an opcode-table word. -/
def decodeTableWord (nbits w : Nat) : Option Instr :=
  match decode (tableByte nbits w) with
  | .ok i => some i
  | .error _ => none

theorem decode_edge_low : decode 0b00010000 = .ok (.edge false) := by decide
theorem decode_edge_high : decode 0b00010001 = .ok (.edge true) := by decide
theorem decode_tick : decode 0b00100000 = .ok .tick := by decide
theorem decode_ovf : decode 0b00110000 = .ok .ovf := by decide
theorem opOfWord_update : opOfWord 0b00110001 = some .update := by decide
theorem decode_update : decode 0b00110001 = .error .internalOp := by decide
theorem decode_codeReceived : decode 0b01000000 = .ok .codeReceived := by decide
theorem decode_rawCode : decode 0b01000001 = .ok .rawCode := by decide
theorem decode_address : decode 0b01000010 = .ok .address := by decide
theorem decode_command : decode 0b01000011 = .ok .command := by decide
theorem decode_newKeyPressed : decode 0b01000100 = .ok .newKeyPressed := by decide
theorem decode_skipThisCode : decode 0b01000101 = .ok .skipThisCode := by decide

end Sys2Proof
end

