-- ==== Sys2Proof/Machine/State.lean ====
section
/-! DEFINITION. The state of the block as plain data (10_state.md), its value at reset, and the reasons a step can stop. -/

namespace Sys2Proof.Machine

/-- The four states of the edge classifier (R21). -/
inductive FsmState where
  | start
  | leadPulseStart
  | leadSpaceStart
  | getPulse
  deriving DecidableEq, Repr

/-- The host operation in progress and its next micro-step (R32, R160). Micro-step 1 is taken as the operation's word is
presented (R83), so a phase names the second or third micro-step. -/
inductive HostPhase where
  /-- No operation in progress. -/
  | idle
  /-- RAW_CODE, micro-step 2: `codeReady <- 0`. -/
  | rawCodeClear
  /-- RAW_CODE, micro-step 3: return `rawCode`. -/
  | rawCodeReturn
  /-- ADDRESS, micro-step 2: return `address`. -/
  | addressReturn
  /-- COMMAND, micro-step 2: `codeReady <- 0`. -/
  | commandClear
  /-- COMMAND, micro-step 3: return `command`. -/
  | commandReturn
  deriving DecidableEq, Repr

/-- A value a host operation returns, at its width (R52, R82). -/
inductive HostValue where
  | bit (b : Bool)
  | byte (v : Byte)
  | word (v : Code)
  deriving DecidableEq, Repr

/-- The fault reasons of R202. -/
inductive FaultReason where
  /-- An evaluated in-window edge with `bitIndex = 32` (R111). -/
  | bitOverrun
  deriving DecidableEq, Repr

/-- What a fault records (R202): its reason, the step's `e` and `L`, and `bitIndex`. -/
structure FaultRecord where
  reason : FaultReason
  elapsed : Nat
  level : Bool
  bitIndex : BitVec 6
  deriving DecidableEq, Repr

/-- Where a script places a word against the micro-steps of the host operation before it (R84, R160; assumption log
entry 1). An operation has at most three micro-steps, so these are all the places there are. -/
inductive Placement where
  /-- Not written apart: the micro-steps are taken back to back, the word after the last of them. -/
  | backToBack
  /-- Written apart: the word is taken as soon as micro-step 1 has been. -/
  | afterFirst
  /-- Written apart: the word is taken as soon as micro-step 2 has been. -/
  | afterSecond
  deriving DecidableEq, Repr

/-- One operation word of a script, still to be presented (R18, R84), with its place. -/
structure Entry where
  word : Byte
  place : Placement
  deriving DecidableEq, Repr

/-- The state of the block: the record of R20, the records of R202 and R203, the configuration that `begin()` fixed
(R231), and the two ends of the block's interface: the words still to be presented and the values returned so far. -/
structure State where
  /-- The configuration record (R6–R12), fixed by `begin()` (R231). -/
  config : Config
  /-- Position in the protocol frame (R21). -/
  state : FsmState
  /-- Bits accumulated so far in the frame, 0..32, held in 6 bits (R20, R22). -/
  bitIndex : BitVec 6
  /-- The accumulator, least significant bit first (R23). -/
  rawCode : Code
  /-- A frame or a repeat is ready; the block's only lock (R24, R56). -/
  codeReady : Bool
  /-- The last ready code was a repeat (R25). -/
  isRepeat : Bool
  /-- The validated address (R26). -/
  address : Byte
  /-- The validated command (R27). -/
  command : Byte
  /-- The watchdog timer counts ticks (R28). -/
  running : Bool
  /-- The timer's tick counter, 0..TIMER_PERIOD − 1, held in TIMER_WIDTH bits (R12, R20, R29). -/
  count : BitVec config.timerWidth
  /-- The overflow interrupt is pending (R30). -/
  ovfPending : Bool
  /-- The host operation in progress (R32). -/
  hostPhase : HostPhase
  /-- Outcome mark of a fault (R33, R202). -/
  faulted : Bool
  /-- Outcome mark of a refusal (R33, R203). -/
  refused : Bool
  /-- What the fault recorded (R202). -/
  faultRecord : Option FaultRecord
  /-- Why the word was refused (R203). -/
  refusalReason : Option WordRefusal
  /-- The operation words still to be presented, in order (R18). -/
  script : List Entry
  /-- The values host operations have returned, in order (R243). -/
  returns : List HostValue
  deriving DecidableEq, Repr

/-- Why the machine stops. -/
inductive Fault where
  /-- Raised by every operation, micro-step and step in a state with `faulted` set: such a state takes no further step
  (R33, R204). It carries what the fault recorded. Safe: the rules give no step here. -/
  | afterFault (record : Option FaultRecord)
  /-- Raised by OVF while `ovfPending = 0`: the script has no step at that point, the run is stuck, not faulted, and
  `faulted` is not set (R74, R142). Safe: the rules give no step here. -/
  | stuckNoOverflow
  /-- Raised by a host operation begun while another is in progress, which R171 excludes. `step` never does this: it
  takes the micro-steps of the operation in progress first. Safe: the rules give no step here. -/
  | hostBusy
  /-- Raised by `step` when the script is exhausted and the host is idle: the end of the run (R243). Safe: no step is
  left to take. -/
  | scriptExhausted
  deriving DecidableEq, Repr

/-- Why the machine refuses. -/
inductive Refusal where
  /-- Raised by an arm of `exec` whose instruction has no meaning yet. Safe: nothing is claimed of it. -/
  | notModelled (mnemonic : String)
  /-- Raised by every operation, micro-step and step in a state with `refused` set: such a state takes no further step
  (R33, R204). It carries why the word was refused. Safe: the rules give no step here. -/
  | afterRefusal (reason : Option WordRefusal)
  /-- Raised by every operation, micro-step and step under an ill-formed configuration, which a model refuses before any
  step (R14, R203). Safe: the rules give no step here. -/
  | illFormedConfig
  deriving DecidableEq, Repr

/-- The state after construction and `begin()`: R36 and R232, with the default configuration and nothing to present. -/
def State.reset : State where
  config := Config.default
  state := .start
  bitIndex := 0
  rawCode := 0
  codeReady := false
  isRepeat := false
  address := 0
  command := 0
  running := false
  count := 0
  ovfPending := false
  hostPhase := .idle
  faulted := false
  refused := false
  faultRecord := none
  refusalReason := none
  script := []
  returns := []

end Sys2Proof.Machine
end

