-- ==== Sys2Proof/Machine/Ops.lean ====
section
/-! DEFINITION. The named operations over the state that the instructions share: the timer primitives, the outcome marks,
the guard of every step, and the host port. -/

namespace Sys2Proof.Machine

/-- What an operation, a micro-step or a step answers. -/
abbrev Result := Host.Outcome State Fault Refusal

/-! ## Timer primitives (R16, R140) -/

/-- `TimerReadCount()`: ticks since the last reset of the count. -/
def timerReadCount (s : State) : Nat := s.count.toNat

/-- `TimerResetCount()`. -/
def timerResetCount (s : State) : State := { s with count := 0 }

/-- `TimerStart()`: starting a running timer keeps it running (D27). -/
def timerStart (s : State) : State := { s with running := true }

/-- `TimerPause()`: a pending overflow and the count are kept (D17, D27). -/
def timerPause (s : State) : State := { s with running := false }

/-- `state <- START` and the timer paused: what a violation (R112), the Overflow Handler (R142) and the validation step
(R161) have in common. -/
def returnToStart (s : State) : State := timerPause { s with state := .start }

/-! ## Outcome marks (R202–R204) -/

/-- The cause code of a fault reason (R202). -/
def faultCode : FaultReason → Nat
  | .bitOverrun => 1

/-- Raise a fault: set the mark with its record and leave every other register as it was (R202, R210). -/
def raiseFault (r : FaultRecord) (s : State) : State := { s with faulted := true, faultRecord := some r }

/-- Refuse a word: set the mark with its reason and change no other register (R77, R203). -/
def refuseWord (r : WordRefusal) (s : State) : State := { s with refused := true, refusalReason := some r }

/-- A state that can take a step: the configuration is well formed (R14) and neither outcome mark is set (R33, R204). -/
abbrev State.Live (s : State) : Prop := s.config.wellFormed = true ∧ s.faulted = false ∧ s.refused = false

/-- The guard of every step: an ill-formed configuration is refused before any step (R14, R203), and a state with an
outcome mark takes no further step (R33, R204). -/
def whenLive (s : State) (k : State → Result) : Result :=
  if s.config.wellFormed then
    if s.faulted then .fault (.afterFault s.faultRecord)
    else if s.refused then .refused (.afterRefusal s.refusalReason)
    else k s
  else .refused .illFormedConfig

/-! ## Host port (R160, R171, R243) -/

/-- The first micro-step of a host operation: at most one operation is in progress at a time (R171). -/
def whenIdle (s : State) (k : State → Result) : Result :=
  whenLive s fun s => if s.hostPhase = .idle then k s else .fault .hostBusy

/-- A host operation returns a value (R82, R243). -/
def hostReturn (v : HostValue) (s : State) : State := { s with returns := s.returns ++ [v] }

/-- The next micro-step of the host operation in progress, if any (R32, R160). -/
def setPhase (p : HostPhase) (s : State) : State := { s with hostPhase := p }

/-- The operation in progress (R32). -/
def HostPhase.operation : HostPhase → Option Instr
  | .idle => none
  | .rawCodeClear | .rawCodeReturn => some .rawCode
  | .addressReturn => some .address
  | .commandClear | .commandReturn => some .command

/-- The number of the next micro-step in the table of R160; 1 while idle, where the next word presents it. -/
def HostPhase.microStep : HostPhase → Nat
  | .idle => 1
  | .rawCodeClear | .addressReturn | .commandClear => 2
  | .rawCodeReturn | .commandReturn => 3

/-! ## Binary encoding of `state` (R21, D14): no rule depends on it -/

/-- The two bits of a state, in declaration order. -/
def FsmState.code : FsmState → BitVec 2
  | .start => 0b00
  | .leadPulseStart => 0b01
  | .leadSpaceStart => 0b10
  | .getPulse => 0b11

/-- The state two bits stand for. -/
def FsmState.ofCode (c : BitVec 2) : FsmState :=
  if c = 0b00 then .start else if c = 0b01 then .leadPulseStart else if c = 0b10 then .leadSpaceStart else .getPulse

end Sys2Proof.Machine
end

