-- ==== Sys2Proof/Machine/Operands.lean ====
section
/-! DEFINITION. What the handlers read: the interval windows, the bit classifier, and the four bytes of the code. -/

namespace Sys2Proof.Machine

/-- The interval `e` lies in the closed window `[lo, hi]` (R104, D5). -/
def inWindow (lo hi e : Nat) : Bool := decide (lo ≤ e) && decide (e ≤ hi)

/-- The lead-pulse window (R104). -/
def leadPulseOk (c : Config) (e : Nat) : Bool := inWindow c.leadPulseLo c.leadPulseMax e

/-- The lead-space window (R105). -/
def leadSpaceOk (c : Config) (e : Nat) : Bool := inWindow c.repeatedMin c.leadSpaceMax e

/-- A lead space below LEAD_SPACE_MIN is a repeat frame (R105). -/
def isRepeatSpace (c : Config) (e : Nat) : Bool := decide (e < c.leadSpaceMin)

/-- The data-bit window (R107). -/
def dataBitOk (c : Config) (e : Nat) : Bool := inWindow c.lowMin c.highMax e

/-- `Classify(e)`: bit 0 below LOW_MAX, else bit 1 (R108). -/
def classify (c : Config) (e : Nat) : Bool := !decide (e < c.lowMax)

/-- `rawCode | (zext_32(b) << k)` (R15, R109). -/
def orBitAt (v : Code) (k : Nat) (b : Bool) : Code := v ||| ((BitVec.ofBool b).zeroExtend 32 <<< k)

/-- `addr`, the byte `rawCode[7:0]` (R51, D9). -/
def addrByte (v : Code) : Byte := v.extractLsb' 0 8

/-- The address complement, the byte `rawCode[15:8]` (R51, D9). -/
def addrInvByte (v : Code) : Byte := v.extractLsb' 8 8

/-- `cmd`, the byte `rawCode[23:16]` (R51, D9). -/
def cmdByte (v : Code) : Byte := v.extractLsb' 16 8

/-- The command complement, the byte `rawCode[31:24]` (R51, D9). -/
def cmdInvByte (v : Code) : Byte := v.extractLsb' 24 8

/-- The invalid-field sentinel (R13). -/
def sentinel : Byte := 0xFF

/-- `Validate8(v, w)`: the field if its complement matches, else the sentinel (R162). -/
def validate8 (v w : Byte) : Byte := if v = ~~~w then v else sentinel

end Sys2Proof.Machine
end

