-- ==== Sys2Proof/Machine/Flags.lean ====
section
/-! DEFINITION. The flags `codeReady` and `isRepeat`: every write of them the rules make. -/

namespace Sys2Proof.Machine

/-- `codeReady <- 1; isRepeat <- 1`: a repeat frame is detected (R24, R25, R105). -/
def flagRepeat (s : State) : State := { s with codeReady := true, isRepeat := true }

/-- `Complete()`: `codeReady <- 1; isRepeat <- 0`, a full new frame (R24, R25, R110). -/
def flagComplete (s : State) : State := { s with codeReady := true, isRepeat := false }

/-- `codeReady <- 0`: a consuming or discarding host operation (R24, R164, R166, R168). -/
def clearReady (s : State) : State := { s with codeReady := false }

end Sys2Proof.Machine
end

