-- ==== Sys2Proof/Machine/EdgeHandler.lean ====
section
/-! DEFINITION. The Edge Handler (40_edge_handler.md): the operation EDGE by its procedures, and its pure form (R115). -/

namespace Sys2Proof.Machine

/-- `Violation()`: back to START with the timer paused; nothing else is written (R112). -/
def violation (s : State) : State := returnToStart s

/-- `EdgeStart()`: the interval is ignored (R103). -/
def edgeStart (s : State) : State := { timerStart s with state := .leadPulseStart }

/-- `EdgeLeadPulse(e)` (R104). -/
def edgeLeadPulse (e : Nat) (s : State) : State :=
  if leadPulseOk s.config e then { s with state := .leadSpaceStart } else violation s

/-- Entry to GET_PULSE: the only place where `bitIndex` and `rawCode` are cleared (R22, R23, R105). -/
def enterGetPulse (s : State) : State := { s with state := .getPulse, bitIndex := 0, rawCode := 0 }

/-- `EdgeLeadSpace(e)`: a violation, a repeat frame or a full lead space (R105). -/
def edgeLeadSpace (e : Nat) (s : State) : State :=
  if leadSpaceOk s.config e then
    if isRepeatSpace s.config e then { flagRepeat s with state := .start } else enterGetPulse s
  else violation s

/-- `Accumulate(b)` with `bitIndex < 32`: the bit goes to position `bitIndex` (R109). -/
def accumulate (b : Bool) (s : State) : State :=
  { s with rawCode := orBitAt s.rawCode s.bitIndex.toNat b, bitIndex := s.bitIndex + 1 }

/-- Frame completion, when an evaluated edge makes `bitIndex = 32` (R106, R110). -/
def completeIfFull (s : State) : State := if s.bitIndex = 32 then flagComplete s else s

/-- What the fault of a 33rd bit records (R111, R202). -/
def overrunRecord (e : Nat) (level : Bool) (s : State) : FaultRecord :=
  { reason := .bitOverrun, elapsed := e, level := level, bitIndex := s.bitIndex }

/-- `EdgeGetPulse(e, L)` (R106–R111): the level test, the window, the overrun check, then the bit. -/
def edgeGetPulse (e : Nat) (level : Bool) (s : State) : Except FaultRecord State :=
  if level then .ok s
  else if dataBitOk s.config e then
    if 32 ≤ s.bitIndex then .error (overrunRecord e level s)
    else .ok (completeIfFull (accumulate (classify s.config e) s))
  else .ok (violation s)

/-- One procedure per state (R100). -/
def edgeCase (e : Nat) (level : Bool) (s : State) : Except FaultRecord State :=
  match s.state with
  | .start => .ok (edgeStart s)
  | .leadPulseStart => .ok (edgeLeadPulse e s)
  | .leadSpaceStart => .ok (edgeLeadSpace e s)
  | .getPulse => edgeGetPulse e level s

/-- An accepted edge: read the count, reset it, and run the state's procedure (R102). A fault is raised on the state
before the step, so that the count reset of the faulting step is not made (R111, R202, C8). -/
def acceptedEdge (level : Bool) (s : State) : State :=
  match edgeCase (timerReadCount s) level (timerResetCount s) with
  | .ok t => t
  | .error r => raiseFault r s

/-- EDGE (R100): while a code is ready the edge is dropped (R101). -/
def execEdge (level : Bool) (s : State) : Result :=
  whenLive s fun s => .next (if s.codeReady then s else acceptedEdge level s)

/-! ## The pure step function (R115) -/

/-- What the pure step function asks of the timer. -/
inductive TimerCmd where
  | start
  | pause
  | none
  deriving DecidableEq, Repr

/-- The outputs of the pure step function. `setReady` says whether `codeReady` is set; `isRepeat` is the value written to
the flag, `none` where the step does not write it. -/
structure EdgeOut where
  state : FsmState
  bitIndex : BitVec 6
  rawCode : Code
  setReady : Bool
  isRepeat : Option Bool
  timerCmd : TimerCmd
  deriving DecidableEq, Repr

/-- `EdgeStep(state, bitIndex, rawCode, e, L)` (R115): the outputs, or the fault. It reads the windows as R104 to R108
write them, and shares no procedure with `edgeCase`. -/
def edgeStep (c : Config) (st : FsmState) (bitIndex : BitVec 6) (rawCode : Code) (e : Nat) (level : Bool) :
    Except FaultReason EdgeOut :=
  let keep : EdgeOut := ⟨st, bitIndex, rawCode, false, none, .none⟩
  let violated : EdgeOut := { keep with state := .start, timerCmd := .pause }
  match st with
  | .start => .ok { keep with state := .leadPulseStart, timerCmd := .start }
  | .leadPulseStart =>
    if e < c.leadPulseLo ∨ c.leadPulseMax < e then .ok violated else .ok { keep with state := .leadSpaceStart }
  | .leadSpaceStart =>
    if e < c.repeatedMin ∨ c.leadSpaceMax < e then .ok violated
    else if e < c.leadSpaceMin then .ok { keep with state := .start, setReady := true, isRepeat := some true }
    else .ok { keep with state := .getPulse, bitIndex := 0, rawCode := 0 }
  | .getPulse =>
    if level then .ok keep
    else if e < c.lowMin ∨ c.highMax < e then .ok violated
    else if 32 ≤ bitIndex then .error .bitOverrun
    else
      .ok { keep with
        bitIndex := bitIndex + 1
        rawCode := rawCode ||| ((if e < c.lowMax then 0#32 else 1#32) <<< bitIndex.toNat)
        setReady := decide (bitIndex + 1 = 32)
        isRepeat := if bitIndex + 1 = 32 then some false else none }

/-- What a timer command leaves in `running`. -/
def runTimerCmd (cmd : TimerCmd) (running : Bool) : Bool :=
  match cmd with
  | .start => true
  | .pause => false
  | .none => running

/-- Write the outputs of the pure step function, with the count reset (R102, R115). -/
def writeEdgeOut (o : EdgeOut) (s : State) : State :=
  { s with
    count := 0
    state := o.state
    bitIndex := o.bitIndex
    rawCode := o.rawCode
    codeReady := s.codeReady || o.setReady
    isRepeat := o.isRepeat.getD s.isRepeat
    running := runTimerCmd o.timerCmd s.running }

/-- EDGE by the pure step function: guard, read and reset the count, apply `EdgeStep`, write its outputs; a fault writes
only the mark and its record (R115). -/
def pureEdge (level : Bool) (s : State) : State :=
  if s.codeReady then s
  else
    match edgeStep s.config s.state s.bitIndex s.rawCode s.count.toNat level with
    | .ok o => writeEdgeOut o s
    | .error r => raiseFault { reason := r, elapsed := s.count.toNat, level := level, bitIndex := s.bitIndex } s

end Sys2Proof.Machine
end

