-- ==== Sys2Proof/Machine/HostPort.lean ====
section
/-! DEFINITION. The host interface (42_facade.md): the validation step, the six host operations at their first
micro-step, and the later micro-steps of the operation in progress. -/

namespace Sys2Proof.Machine

/-- Both fields validated from the code (R51, R161, R162). -/
def validateFields (s : State) : State :=
  { s with
    address := validate8 (addrByte s.rawCode) (addrInvByte s.rawCode)
    command := validate8 (cmdByte s.rawCode) (cmdInvByte s.rawCode) }

/-- `update()` (R161): with a ready code, validate and end the receive cycle; without one, the reset happens only when
UPDATE_RESET_UNCONDITIONAL says so (R11, D10). -/
def updateStep (s : State) : State :=
  if s.codeReady then returnToStart (validateFields s)
  else if s.config.updateResetUnconditional then returnToStart s
  else s

/-- UPDATE (R161), as the micro-step it is. -/
def execUpdate (s : State) : Result :=
  whenLive s fun s => .next (updateStep s)

/-- CODE_RECEIVED (R163). -/
def execCodeReceived (s : State) : Result :=
  whenIdle s fun s => .next (hostReturn (.bit s.codeReady) s)

/-- RAW_CODE (R164), micro-step 1: UPDATE. -/
def execRawCode (s : State) : Result :=
  whenIdle s fun s => .next (setPhase .rawCodeClear (updateStep s))

/-- ADDRESS (R165), micro-step 1: UPDATE. -/
def execAddress (s : State) : Result :=
  whenIdle s fun s => .next (setPhase .addressReturn (updateStep s))

/-- COMMAND (R166), micro-step 1: UPDATE. -/
def execCommand (s : State) : Result :=
  whenIdle s fun s => .next (setPhase .commandClear (updateStep s))

/-- NEW_KEY_PRESSED (R167). -/
def execNewKeyPressed (s : State) : Result :=
  whenIdle s fun s => .next (hostReturn (.bit (!s.isRepeat)) s)

/-- SKIP_THIS_CODE (R168). -/
def execSkipThisCode (s : State) : Result :=
  whenIdle s fun s => .next (clearReady s)

/-- The effect of micro-step 2 or 3 of the operation in progress (R160, R164–R166). While idle there is none. -/
def microEffect (s : State) : State :=
  match s.hostPhase with
  | .idle => s
  | .rawCodeClear => setPhase .rawCodeReturn (clearReady s)
  | .rawCodeReturn => setPhase .idle (hostReturn (.word s.rawCode) s)
  | .addressReturn => setPhase .idle (hostReturn (.byte s.address) s)
  | .commandClear => setPhase .commandReturn (clearReady s)
  | .commandReturn => setPhase .idle (hostReturn (.byte s.command) s)

/-- The next micro-step of the host operation in progress: always enabled, it never blocks (R160). -/
def hostMicroStep (s : State) : Result :=
  whenLive s fun s => .next (microEffect s)

end Sys2Proof.Machine
end

