-- ==== Sys2Proof/Machine/Timer.lean ====
section
/-! DEFINITION. The watchdog timer and the Overflow Handler (41_timer_watchdog.md): the operations TICK and OVF. -/

namespace Sys2Proof.Machine

/-- One tick of a running timer: wrap at the period and make the overflow pending, else count (R141). -/
def countTick (s : State) : State :=
  if s.count.toNat = s.config.timerPeriod - 1 then { s with count := 0, ovfPending := true }
  else { s with count := s.count + 1 }

/-- TICK (R141): a paused timer does not count. -/
def execTick (s : State) : Result :=
  whenLive s fun s => .next (if s.running then countTick s else s)

/-- The Overflow Handler's writes: `ovfPending`, `state` and `running`, nothing else (R142, R143). -/
def overflowHandler (s : State) : State := returnToStart { s with ovfPending := false }

/-- OVF (R142): enabled only while `ovfPending = 1`; otherwise the run is stuck, not faulted (R74). -/
def execOvf (s : State) : Result :=
  whenLive s fun s => if s.ovfPending then .next (overflowHandler s) else .fault .stuckNoOverflow

end Sys2Proof.Machine
end

