-- ==== Sys2Proof/Machine/Dispatch.lean ====
section
/-! DEFINITION. The dispatch: one arm per operation of R71, one call of its meaning. -/

namespace Sys2Proof.Machine

def exec (i : Instr) (s : State) : Host.Outcome State Fault Refusal :=
  match i with
  | .edge level => Sys2Proof.Machine.execEdge level s
  | .tick => Sys2Proof.Machine.execTick s
  | .ovf => Sys2Proof.Machine.execOvf s
  | .update => Sys2Proof.Machine.execUpdate s
  | .codeReceived => Sys2Proof.Machine.execCodeReceived s
  | .rawCode => Sys2Proof.Machine.execRawCode s
  | .address => Sys2Proof.Machine.execAddress s
  | .command => Sys2Proof.Machine.execCommand s
  | .newKeyPressed => Sys2Proof.Machine.execNewKeyPressed s
  | .skipThisCode => Sys2Proof.Machine.execSkipThisCode s

end Sys2Proof.Machine
end

