-- ==== Sys2Proof/Machine/Fetch.lean ====
section
/-! DEFINITION. Which step comes next: the next word of the script, or the next micro-step of the host operation in
progress (R84, R160, R209). The block fetches no instructions (R34, R59): the script is what is presented to it. -/

namespace Sys2Proof.Machine

/-- What the next step is. -/
inductive Fetched where
  /-- The script's next word decodes to an operation; the state has the word presented. -/
  | op (i : Instr) (s : State)
  /-- The script's next word is refused; the state has the word presented. -/
  | badWord (r : WordRefusal) (s : State)
  /-- The host operation in progress takes its next micro-step. -/
  | microStep
  /-- The script is exhausted and the host is idle (R243). -/
  | exhausted
  deriving DecidableEq, Repr

/-- The steps that may be taken between two micro-steps of a host operation: EDGE, TICK and OVF (R160, R209). -/
def interleaves : Instr → Bool
  | .edge _ | .tick | .ovf => true
  | .update | .codeReceived | .rawCode | .address | .command | .newKeyPressed | .skipThisCode => false

/-- A word that stands for such a step. -/
def wordInterleaves (w : Byte) : Bool :=
  match decode w with
  | .ok i => interleaves i
  | .error _ => false

/-- The script's place for a word lies before the next micro-step of the operation in progress (R84, R160). -/
def Placement.due (p : Placement) (h : HostPhase) : Bool :=
  match p with
  | .backToBack => false
  | .afterFirst => decide (2 ≤ h.microStep)
  | .afterSecond => decide (3 ≤ h.microStep)

/-- Present a word: decode it (R79). -/
def presentWord (w : Byte) (s : State) : Fetched :=
  match decode w with
  | .ok i => .op i s
  | .error r => .badWord r s

/-- The next step. While a host operation is in progress its micro-steps are taken back to back, unless the script writes
an environment or interrupt-context step apart, after micro-step 1 or after micro-step 2 (R84, R160). -/
def fetch (s : State) : Fetched :=
  match s.script with
  | [] => if s.hostPhase = .idle then .exhausted else .microStep
  | x :: rest =>
    if s.hostPhase = .idle ∨ (x.place.due s.hostPhase = true ∧ wordInterleaves x.word = true) then
      presentWord x.word { s with script := rest }
    else .microStep

/-- The end of a run (R243). -/
def endOfRun (s : State) : Result :=
  whenLive s fun _ => .fault .scriptExhausted

/-- The step that presents a refused word (R77, R203). -/
def refuseStep (r : WordRefusal) (s : State) : Result :=
  whenLive s fun s => .next (refuseWord r s)

/-- A script's words, each taken back to back (R84). -/
def entries (ws : List Byte) : List Entry := ws.map fun w => ⟨w, .backToBack⟩

/-- Load a script: from outside the machine (assumption log entry 1). -/
def loadScript (ws : List Byte) (s : State) : State := { s with script := entries ws }

/-- Put one word at the head of the script so that the very next step presents it: an EDGE, TICK or OVF word is placed
after micro-step 1 of any operation in progress, and any other word waits for no host operation (assumption log entry 17). -/
def placeWord (w : Byte) (s : State) : State :=
  { s with
    script := ⟨w, .afterFirst⟩ :: s.script
    hostPhase := if wordInterleaves w then s.hostPhase else .idle }

end Sys2Proof.Machine
end

