-- ==== Sys2Proof/Machine/Step.lean ====
section
/-! DEFINITION. One step of the block (R17, R55): the next word's operation, or the next micro-step of the host operation in progress. -/

namespace Sys2Proof.Machine

/-- One atomic step in the one total order of steps (R17, R55). -/
def step (s : State) : Host.Outcome State Fault Refusal :=
  match fetch s with
  | .op i t => exec i t
  | .badWord r t => refuseStep r t
  | .microStep => hostMicroStep s
  | .exhausted => endOfRun s

/-- The state with an opcode-table word placed as the next word to present. -/
def State.withFetchWord (s : State) (nbits w : Nat) : State := placeWord (tableByte nbits w) s

end Sys2Proof.Machine
end

