-- ==== Sys2Proof/Machine/Script.lean ====
section
/-! DEFINITION. The script language of 30_encoding.md section 4: pseudo-operations and their expansions (R85), the script
grammar (R84), and the words a script assembles to. -/

namespace Sys2Proof.Machine

/-! ## Pseudo-operations (R85) -/

/-- `TICKS n`. -/
def ticksOps (n : Nat) : List Instr := List.replicate n .tick

/-- A mark and a space of a data bit, each ended by an edge: `TICKS mark; EDGE 1; TICKS space; EDGE 0` (R85, R113). -/
def markSpaceOps (mark space : Nat) : List Instr :=
  ticksOps mark ++ .edge true :: (ticksOps space ++ [.edge false])

/-- `LEAD`: a 9000-tick mark and a 4500-tick space. -/
def leadOps : List Instr := .edge false :: markSpaceOps 9000 4500

/-- `REPEAT_LEAD`: the space is the NEC nominal 2250 (R85, G1). -/
def repeatLeadOps : List Instr := .edge false :: markSpaceOps 9000 2250

/-- `BIT0` or `BIT1`. -/
def bitOps (b : Bool) : List Instr := markSpaceOps 560 (if b then 1650 else 560)

/-- `STOP`: the trailing mark (R85, G2). -/
def stopOps : List Instr := ticksOps 560 ++ [.edge true]

/-- `BYTE b`: least significant bit first (R51, R85). -/
def byteOps (b : Byte) : List Instr := (List.range 8).flatMap fun k => bitOps (b.getLsbD k)

/-- `FRAME v`: one full frame whose `rawCode` is `v`. -/
def frameOps (v : Code) : List Instr :=
  leadOps ++ ((List.range 32).flatMap fun k => bitOps (v.getLsbD k)) ++ stopOps

/-- The pseudo-operations of R85. -/
inductive Pseudo where
  | ticks (n : Nat)
  | lead
  | repeatLead
  | bit0
  | bit1
  | stop
  | byte (b : Byte)
  | frame (v : Code)
  deriving DecidableEq, Repr

/-- A pseudo-operation's expansion (R85). -/
def expandPseudo : Pseudo → List Instr
  | .ticks n => ticksOps n
  | .lead => leadOps
  | .repeatLead => repeatLeadOps
  | .bit0 => bitOps false
  | .bit1 => bitOps true
  | .stop => stopOps
  | .byte b => byteOps b
  | .frame v => frameOps v

/-! ## The grammar (R84) -/

/-- `op` of the grammar. -/
inductive ScriptOp where
  | op (i : Instr)
  | pseudo (p : Pseudo)
  deriving DecidableEq, Repr

/-- `line` of the grammar, less its comment: an operation or none, and the value stated for it or none. -/
structure ScriptLine where
  op : Option ScriptOp
  value : Option Nat
  deriving DecidableEq, Repr

/-- The operations of a script line. -/
def lineOps (l : ScriptLine) : List Instr :=
  match l.op with
  | none => []
  | some (.op i) => [i]
  | some (.pseudo p) => expandPseudo p

/-- A script's encoding is the list of its words in order (R84). -/
def assemble (ls : List ScriptLine) : List Byte := (ls.flatMap lineOps).map encode

/-- An operation that returns a value (R82). -/
def returnsValue : Instr → Bool
  | .codeReceived | .rawCode | .address | .command | .newKeyPressed => true
  | .edge _ | .tick | .ovf | .update | .skipThisCode => false

/-- A returned value as a number. -/
def HostValue.toNat : HostValue → Nat
  | .bit b => b.toNat
  | .byte v => v.toNat
  | .word v => v.toNat

/-- The value stated for each returning operation of a script, in order (R84). DESIGN CHOICE (assumption log entry 18):
a value stated after an operation that returns nothing, or after a pseudo-operation, states nothing and is ignored; the
grammar admits it there, and R84 says what it means only after a host operation. -/
def annotations (ls : List ScriptLine) : List (Option Nat) :=
  ls.filterMap fun l =>
    match l.op with
    | some (.op i) => if returnsValue i then some l.value else none
    | _ => none

/-- The values returned agree with the values the script states; a value it does not state agrees with any. -/
def annotationsHold : List (Option Nat) → List HostValue → Bool
  | [], [] => true
  | none :: as, _ :: vs => annotationsHold as vs
  | some n :: as, v :: vs => decide (v.toNat = n) && annotationsHold as vs
  | _, _ => false

/-! ## Script text (R84; assumption log entry 18) -/

/-- Cut a text at a separator. -/
def splitAtChar (sep : Char) : List Char → List (List Char)
  | [] => [[]]
  | c :: cs =>
    match splitAtChar sep cs with
    | [] => [[]]
    | w :: ws => if c = sep then [] :: w :: ws else (c :: w) :: ws

/-- A line's tokens: its text before the comment, cut at blanks. DESIGN CHOICE (assumption log entry 18): a blank is a
space, a tab or a carriage return; R84 names none. -/
def lineTokens (l : List Char) : List (List Char) :=
  let code := (l.takeWhile (· ≠ ';')).map fun c => if c = '\t' ∨ c = '\r' then ' ' else c
  (splitAtChar ' ' code).filter (· ≠ [])

/-- A digit's value. -/
def digitValue (c : Char) : Option Nat :=
  let n := c.toNat
  if 48 ≤ n ∧ n ≤ 57 then some (n - 48)
  else if 65 ≤ n ∧ n ≤ 70 then some (n - 55)
  else if 97 ≤ n ∧ n ≤ 102 then some (n - 87)
  else none

/-- Digits in a base, most significant first. -/
def digitsValue (base acc : Nat) : List Char → Option Nat
  | [] => some acc
  | c :: cs =>
    match digitValue c with
    | some d => if d < base then digitsValue base (acc * base + d) cs else none
    | none => none

/-- A number: hexadecimal after 0x (R15), else decimal. -/
def numberOf : List Char → Option Nat
  | [] => none
  | '0' :: 'x' :: c :: cs => digitsValue 16 0 (c :: cs)
  | c :: cs => digitsValue 10 0 (c :: cs)

/-- `value ::= "0" | "1" | hex-number` (R84). -/
def valueOf : List Char → Option Nat
  | ['0'] => some 0
  | ['1'] => some 1
  | '0' :: 'x' :: c :: cs => digitsValue 16 0 (c :: cs)
  | _ => none

/-- The one-token operations of the grammar, by their spelling. -/
def simpleOps : List (String × ScriptOp) :=
  [("TICK", .op .tick), ("OVF", .op .ovf), ("CODE_RECEIVED", .op .codeReceived), ("RAW_CODE", .op .rawCode),
   ("ADDRESS", .op .address), ("COMMAND", .op .command), ("NEW_KEY_PRESSED", .op .newKeyPressed),
   ("SKIP_THIS_CODE", .op .skipThisCode), ("LEAD", .pseudo .lead), ("REPEAT_LEAD", .pseudo .repeatLead),
   ("BIT0", .pseudo .bit0), ("BIT1", .pseudo .bit1), ("STOP", .pseudo .stop)]

/-- An operation with one operand, by its spelling. -/
def operandOp (name arg : List Char) : Option ScriptOp :=
  if name = "EDGE".toList then
    if arg = ['0'] then some (.op (.edge false)) else if arg = ['1'] then some (.op (.edge true)) else none
  else
    match numberOf arg with
    | none => none
    | some n =>
      if name = "TICKS".toList then some (.pseudo (.ticks n))
      else if name = "BYTE".toList then if n < 2 ^ 8 then some (.pseudo (.byte (BitVec.ofNat 8 n))) else none
      else if name = "FRAME".toList then if n < 2 ^ 32 then some (.pseudo (.frame (BitVec.ofNat 32 n))) else none
      else none

/-- The one-token operation a token spells. -/
def simpleOp (name : List Char) : Option ScriptOp :=
  (simpleOps.find? fun row => row.1.toList == name).map (·.2)

/-- `op`: one token, or a name and its operand. -/
def parseOp : List (List Char) → Option ScriptOp
  | [name] => simpleOp name
  | [name, arg] => operandOp name arg
  | _ => none

/-- `[ op [ "->" value ] ]`. -/
def parseTokens (ts : List (List Char)) : Option ScriptLine :=
  if ts = [] then some ⟨none, none⟩
  else
    let before := ts.takeWhile (· ≠ ['-', '>'])
    match parseOp before, ts.drop before.length with
    | some o, [] => some ⟨some o, none⟩
    | some o, [_, v] => (valueOf v).map fun n => ⟨some o, some n⟩
    | _, _ => none

/-- `script ::= { line }`: every line of the text, or nothing where a line is not in the grammar. -/
def parseScript (text : List Char) : Option (List ScriptLine) :=
  (splitAtChar '\n' text).mapM fun l => parseTokens (lineTokens l)

end Sys2Proof.Machine
end

