-- ==== Sys2Proof/Safety.lean ====
section
/-! DEFINITION. The terms claims use: runs, reachable states, the end of a run, and the invariants of 10_state.md. -/

namespace Sys2Proof.Machine

/-! ## Runs -/

/-- Operations applied in order, stopping at the first fault or refusal. -/
def execMany : List Instr → State → Result
  | [], s => .next s
  | i :: is, s =>
    match exec i s with
    | .next t => execMany is t
    | .fault r => .fault r
    | .refused r => .refused r

/-- `n` steps, stopping at the first fault or refusal. -/
def runSteps : Nat → State → Result
  | 0, s => .next s
  | n + 1, s =>
    match step s with
    | .next t => runSteps n t
    | .fault r => .fault r
    | .refused r => .refused r

/-- The state in which a run starts: reset (R232), with the configuration `begin()` fixed (R231) and a script. -/
def started (c : Config) (script : List Entry) : State := { State.reset with config := c, script := script, count := 0 }

/-- The states of the runs of R243, under any well-formed configuration and any script. -/
inductive Reachable : State → Prop where
  | start (c : Config) (script : List Entry) (h : c.wellFormed = true) : Reachable (started c script)
  | step {s t : State} (hs : Reachable s) (h : step s = .next t) : Reachable t

/-- A run has ended well (R243). -/
abbrev EndedWell (s : State) : Prop :=
  s.script = [] ∧ s.hostPhase = .idle ∧ s.faulted = false ∧ s.refused = false

/-! ## Which step comes next -/

/-- The next step presents the word of the operation `i`. -/
abbrev Presents (i : Instr) (s : State) : Prop := ∃ t, fetch s = .op i t

/-- The next step runs UPDATE: the first micro-step of RAW_CODE, ADDRESS or COMMAND (R160). -/
abbrev PresentsUpdate (s : State) : Prop := Presents .rawCode s ∨ Presents .address s ∨ Presents .command s

/-- The script writes no word apart at its head, so that a host operation in progress takes its next micro-step (R84). -/
abbrev NotApart (script : List Entry) : Prop := ∀ x ∈ script.head?, x.place = .backToBack

/-! ## States that differ in a parameter only -/

/-- The state under another LEAD_PULSE_MIN (R6) and TICK_US (R10). -/
def withUnread (leadPulseMin tickUs : Nat) (s : State) : State :=
  { s with config := { s.config with leadPulseMin := leadPulseMin, tickUs := tickUs } }

/-- The state under another TIMER_WIDTH, its count in a register of that width (R12). -/
def withTimerWidth (w : Nat) (s : State) : State :=
  { s with config := { s.config with timerWidth := w }, count := s.count.setWidth w }

/-- A result with its next state changed. -/
def mapNext (f : State → State) : Result → Result
  | .next t => .next (f t)
  | .fault r => .fault r
  | .refused r => .refused r

/-! ## Invariants -/

/-- The invariants of R37 (I1 to I3) and the range of `count` (R29). -/
structure FrameInv (s : State) : Prop where
  /-- I1: the timer is paused only in START. -/
  paused_start : s.running = false → s.state = .start
  /-- I2: at most 32 bits. -/
  bitIndex_le : s.bitIndex ≤ 32
  /-- I3: a code ready in GET_PULSE is a complete frame. -/
  ready_full : s.state = .getPulse → s.codeReady = true → s.bitIndex = 32 ∧ s.isRepeat = false
  /-- R29: the count stays below the period. -/
  count_lt : s.count.toNat < s.config.timerPeriod

/-- R109: the bits of `rawCode` at and above `bitIndex` are 0. -/
abbrev CodeBelowIndex (s : State) : Prop := ∀ k, s.bitIndex.toNat ≤ k → s.rawCode.getLsbD k = false

/-- Outcome marks and their records go together, and at most one mark is set (R202, R203). -/
abbrev MarksAgree (s : State) : Prop :=
  (s.faulted = s.faultRecord.isSome) ∧ (s.refused = s.refusalReason.isSome) ∧ ¬ (s.faulted = true ∧ s.refused = true)

/-- The hazard of R237 and R238: a completed frame discarded without a validation step that found it. -/
abbrev Discarded (s : State) : Prop := s.state = .getPulse ∧ s.bitIndex = 32 ∧ s.codeReady = false

end Sys2Proof.Machine
end

