-- ==== Sys2Proof/Certificates/Slice0/Obligations.lean ====
section
/-! DEFINITION. The statements for the provers, rule by rule. -/

open Sys2Proof Sys2Proof.Machine

/-! ## EDGE (40_edge_handler.md) -/

/-- R101: an edge while a code is ready changes no register. -/
def Obligations.EdgeDroppedWhileCodeReady : Prop :=
  ∀ (s : State) (L : Bool), s.Live → s.codeReady = true → exec (.edge L) s = .next s

/-- R103, R102: an accepted edge in START resets the count, starts the timer and begins the lead pulse, whatever the
interval and the level are. That every accepted edge resets the count is the spec's own decision D6 (log entry 11). -/
def Obligations.EdgeInStartBeginsLeadPulse : Prop :=
  ∀ (s : State) (L : Bool), s.Live → s.codeReady = false → s.state = .start →
    exec (.edge L) s = .next { s with count := 0, running := true, state := .leadPulseStart }

/-- R104, R112: the lead-pulse interval against `[LEAD_PULSE_LO, LEAD_PULSE_MAX]`. The closed bounds are the spec's own
decision D5, the count reset D6, and the registers a violation keeps D24. -/
def Obligations.EdgeChecksLeadPulseWindow : Prop :=
  ∀ (s : State) (L : Bool), s.Live → s.codeReady = false → s.state = .leadPulseStart →
    exec (.edge L) s = .next
      (if s.count.toNat < s.config.leadPulseLo ∨ s.config.leadPulseMax < s.count.toNat then
        { s with count := 0, state := .start, running := false }
      else { s with count := 0, state := .leadSpaceStart })

/-- R105, R112: the lead space is a violation, a repeat frame or a full lead space. The closed outer bounds are the spec's
own decision D5, the count reset D6, and the registers a violation keeps D24. -/
def Obligations.EdgeSplitsLeadSpace : Prop :=
  ∀ (s : State) (L : Bool), s.Live → s.codeReady = false → s.state = .leadSpaceStart →
    exec (.edge L) s = .next
      (if s.count.toNat < s.config.repeatedMin ∨ s.config.leadSpaceMax < s.count.toNat then
        { s with count := 0, state := .start, running := false }
      else if s.count.toNat < s.config.leadSpaceMin then
        { s with count := 0, codeReady := true, isRepeat := true, state := .start }
      else { s with count := 0, state := .getPulse, bitIndex := 0, rawCode := 0 })

/-- R106: an accepted edge in GET_PULSE with the level high changes nothing beyond the counter reset (D6). -/
def Obligations.HighEdgeInGetPulseOnlyResetsCount : Prop :=
  ∀ s : State, s.Live → s.codeReady = false → s.state = .getPulse →
    exec (.edge true) s = .next { s with count := 0 }

/-- R107, R112: an evaluated edge outside `[LOW_MIN, HIGH_MAX]` is a violation, whatever `bitIndex` is (R111). The closed
bounds are the spec's own decision D5, the count reset D6, and the registers kept D24. -/
def Obligations.DataBitOutsideWindowViolates : Prop :=
  ∀ s : State, s.Live → s.codeReady = false → s.state = .getPulse →
    (s.count.toNat < s.config.lowMin ∨ s.config.highMax < s.count.toNat) →
    exec (.edge false) s = .next { s with count := 0, state := .start, running := false }

/-- R108, R109, R110: an evaluated edge inside the window puts bit 0 (interval below LOW_MAX) or bit 1 at position
`bitIndex` and counts it; the 32nd bit completes the frame, and the state and the timer stay as they are (D7). -/
def Obligations.DataBitIsAccumulated : Prop :=
  ∀ s : State, s.Live → s.codeReady = false → s.state = .getPulse →
    s.config.lowMin ≤ s.count.toNat → s.count.toNat ≤ s.config.highMax → s.bitIndex < 32 →
    exec (.edge false) s = .next { s with
      count := 0
      rawCode := s.rawCode ||| ((if s.count.toNat < s.config.lowMax then 0#32 else 1#32) <<< s.bitIndex.toNat)
      bitIndex := s.bitIndex + 1
      codeReady := decide (s.bitIndex + 1 = 32)
      isRepeat := s.isRepeat && decide (s.bitIndex + 1 ≠ 32) }

/-- R111, R202: a 33rd bit raises BitOverrun: the mark and what the fault records, and no other write, not even the count
reset. The fault is the spec's own decision D8 (log entry 14), the closed window R107 with D5 (log entry 10), and that the
faulting step answers a next state with the mark set is log entry 3. -/
def Obligations.ThirtyThirdBitFaults : Prop :=
  ∀ s : State, s.Live → s.codeReady = false → s.state = .getPulse →
    s.config.lowMin ≤ s.count.toNat → s.count.toNat ≤ s.config.highMax → 32 ≤ s.bitIndex →
    exec (.edge false) s = .next { s with
      faulted := true
      faultRecord := some ⟨.bitOverrun, s.count.toNat, false, s.bitIndex⟩ }

/-- R111, R202: EDGE faults on an evaluated in-window edge with 32 bits and in no other case. That it faults there is the
spec's own decision D8 (log entry 14), that the window holds its bounds is R107 with D5 (log entry 10), and that the
faulting step answers a next state with the mark is log entry 3. -/
def Obligations.EdgeFaultsOnlyOnOverrun : Prop :=
  ∀ (s t : State) (L : Bool), exec (.edge L) s = .next t →
    (t.faulted = true ↔
      s.codeReady = false ∧ s.state = .getPulse ∧ L = false ∧ s.config.lowMin ≤ s.count.toNat ∧ s.count.toNat ≤ s.config.highMax ∧
        32 ≤ s.bitIndex)

/-- R100: what EDGE writes, and that it never clears `codeReady`; every other field is unchanged, `address`, `command`
and `ovfPending` among them. The mark and its record are log entry 3. -/
def Obligations.EdgeFrame : Prop :=
  ∀ (s t : State) (L : Bool), exec (.edge L) s = .next t →
    (∃ c, t = { s with
      count := c, running := t.running, state := t.state, bitIndex := t.bitIndex, rawCode := t.rawCode
      codeReady := t.codeReady, isRepeat := t.isRepeat, faulted := t.faulted, faultRecord := t.faultRecord }) ∧
    (s.codeReady = true → t.codeReady = true)

/-- R115: the guard, the count read and reset, and the pure step function agree with R101 to R112 on every input. Both
follow the spec's own decisions D5 to D8 and D24 (log entries 10, 11, 13 and 14), and the faulting step is log entry 3. -/
def Obligations.EdgeAgreesWithPureStep : Prop :=
  ∀ (s : State) (L : Bool), s.Live → exec (.edge L) s = .next (pureEdge L s)

/-! ## TICK and OVF (41_timer_watchdog.md) -/

/-- R141: a paused timer does not count; a running one counts, and wraps at TIMER_PERIOD with the overflow pending. The
wrap to 0, the counting after it and the single pending flag are the spec's own decisions D17 and D30. -/
def Obligations.TickCountsAndWraps : Prop :=
  ∀ s : State, s.Live →
    exec .tick s = .next
      (if s.running = false then s
      else if s.count.toNat = s.config.timerPeriod - 1 then { s with count := 0, ovfPending := true }
      else { s with count := s.count + 1 })

/-- R142, R143: OVF writes `ovfPending`, `state` and `running`, whatever `state` and `codeReady` are, and leaves every
other field as it is. The latch it clears is the spec's own decision D17 (log entry 19), and that it keeps `bitIndex` and
`rawCode` is D24 (log entry 13). -/
def Obligations.OverflowHandlerReturnsToStart : Prop :=
  ∀ s : State, s.Live → s.ovfPending = true →
    exec .ovf s = .next { s with ovfPending := false, state := .start, running := false }

/-- R74, R142: with no pending overflow OVF has no step: the run is stuck, not faulted (the spec's own decision D17; the
stop's name is log entry 5). -/
def Obligations.OverflowWithoutPendingIsStuck : Prop :=
  ∀ s : State, s.Live → s.ovfPending = false → exec .ovf s = .fault .stuckNoOverflow

/-- R141, R142, R143: what TICK and OVF leave unchanged, in every state. That OVF keeps `bitIndex` and `rawCode` is the
spec's own decision D24 (log entry 13). -/
def Obligations.TimerStepsFrame : Prop :=
  (∀ s t : State, exec .tick s = .next t → ∃ c, t = { s with count := c, ovfPending := t.ovfPending }) ∧
  (∀ s t : State, exec .ovf s = .next t →
    t = { s with ovfPending := t.ovfPending, state := t.state, running := t.running })

/-- R141: `n` ticks of a running timer that stay below the period are one step `count <- c + n`. -/
def Obligations.TicksAddUp : Prop :=
  ∀ (n : Nat) (s : State), s.Live → s.running = true → s.count.toNat + n < s.config.timerPeriod →
    execMany (ticksOps n) s = .next { s with count := s.count + BitVec.ofNat s.config.timerWidth n }

/-- R145: a running timer that sees TIMER_PERIOD ticks and no accepted edge among them has its overflow pending, and the
next OVF returns the machine to START with the timer paused; nothing else has changed, a ready code included. The wrap, the
counting after it and the latch are the spec's own decisions D17 and D30 (log entry 19), and that OVF keeps `bitIndex` and
`rawCode` is D24 (log entry 13). -/
def Obligations.SilenceTimesOut : Prop :=
  ∀ s : State, s.Live → s.running = true → s.count.toNat < s.config.timerPeriod →
    execMany (ticksOps s.config.timerPeriod) s = .next { s with ovfPending := true } ∧
    execMany (ticksOps s.config.timerPeriod ++ [.ovf]) s =
      .next { s with ovfPending := false, state := .start, running := false }

/-! ## UPDATE and the complement check (42_facade.md section 2) -/

/-- R162: the field if field and complement sum to 0xFF, else the sentinel. -/
def Obligations.Validate8ChecksComplement : Prop :=
  ∀ v w : Byte,
    (v.toNat + w.toNat = 0xFF → validate8 v w = v) ∧ (v.toNat + w.toNat ≠ 0xFF → validate8 v w = 0xFF)

/-- R161, R51: with a ready code UPDATE validates both fields and ends the receive cycle. The byte positions are the
spec's own decision D9. -/
def Obligations.UpdateValidatesReadyCode : Prop :=
  ∀ s : State, s.Live → s.codeReady = true →
    exec .update s = .next { s with
      address := validate8 (s.rawCode.extractLsb' 0 8) (s.rawCode.extractLsb' 8 8)
      command := validate8 (s.rawCode.extractLsb' 16 8) (s.rawCode.extractLsb' 24 8)
      state := .start
      running := false }

/-- R161, R11: without a ready code UPDATE writes nothing, unless UPDATE_RESET_UNCONDITIONAL is set (the spec's own
decision D10). -/
def Obligations.UpdateWithoutReadyCode : Prop :=
  ∀ s : State, s.Live → s.codeReady = false →
    exec .update s = .next
      (if s.config.updateResetUnconditional = true then { s with state := .start, running := false } else s)

/-- R161: a second UPDATE changes nothing. -/
def Obligations.UpdateIsIdempotent : Prop :=
  ∀ s t : State, exec .update s = .next t → exec .update t = .next t

/-! ## Host operations (42_facade.md section 3) -/

/-- R163: CODE_RECEIVED returns `codeReady` and writes no register. -/
def Obligations.CodeReceivedReturnsReadyFlag : Prop :=
  ∀ s : State, s.Live → s.hostPhase = .idle →
    exec .codeReceived s = .next { s with returns := s.returns ++ [.bit s.codeReady] }

/-- R167: NEW_KEY_PRESSED returns `¬isRepeat`, whatever `codeReady` is, and writes no register. -/
def Obligations.NewKeyPressedReturnsNotRepeat : Prop :=
  ∀ s : State, s.Live → s.hostPhase = .idle →
    exec .newKeyPressed s = .next { s with returns := s.returns ++ [.bit (!s.isRepeat)] }

/-- R168: SKIP_THIS_CODE clears `codeReady`, runs no validation and returns nothing. -/
def Obligations.SkipThisCodeClearsReady : Prop :=
  ∀ s : State, s.Live → s.hostPhase = .idle → exec .skipThisCode s = .next { s with codeReady := false }

/-- R160: micro-step 1 of RAW_CODE, ADDRESS and COMMAND is UPDATE, and the second comes next. The split into micro-steps
is the spec's own decision D11. -/
def Obligations.ConsumersBeginWithUpdate : Prop :=
  ∀ s : State, s.Live → s.hostPhase = .idle →
    ∃ u, exec .update s = .next u ∧
      exec .rawCode s = .next { u with hostPhase := .rawCodeClear } ∧
      exec .address s = .next { u with hostPhase := .addressReturn } ∧
      exec .command s = .next { u with hostPhase := .commandClear }

/-- R160, R32: each later micro-step, always enabled when it is next (D11). -/
def Obligations.MicroStepsComplete : Prop :=
  ∀ s : State, s.Live → fetch s = .microStep →
    (s.hostPhase = .rawCodeClear → step s = .next { s with codeReady := false, hostPhase := .rawCodeReturn }) ∧
    (s.hostPhase = .rawCodeReturn →
      step s = .next { s with returns := s.returns ++ [.word s.rawCode], hostPhase := .idle }) ∧
    (s.hostPhase = .addressReturn →
      step s = .next { s with returns := s.returns ++ [.byte s.address], hostPhase := .idle }) ∧
    (s.hostPhase = .commandClear → step s = .next { s with codeReady := false, hostPhase := .commandReturn }) ∧
    (s.hostPhase = .commandReturn →
      step s = .next { s with returns := s.returns ++ [.byte s.command], hostPhase := .idle })

/-- R164: RAW_CODE with its micro-steps back to back: UPDATE, `codeReady <- 0`, return `rawCode`. -/
def Obligations.RawCodeBackToBack : Prop :=
  ∀ (s : State) (a : Placement) (rest : List Entry), s.Live → s.hostPhase = .idle → s.script = ⟨0x41, a⟩ :: rest →
    NotApart rest →
    ∃ u, exec .update s = .next u ∧
      runSteps 3 s = .next
        { u with script := rest, codeReady := false, returns := s.returns ++ [.word s.rawCode] }

/-- R165: ADDRESS with its micro-steps back to back: UPDATE, return `address`; `codeReady` is not cleared (the spec's own
decision D19). -/
def Obligations.AddressBackToBack : Prop :=
  ∀ (s : State) (a : Placement) (rest : List Entry), s.Live → s.hostPhase = .idle → s.script = ⟨0x42, a⟩ :: rest →
    NotApart rest →
    ∃ u, exec .update s = .next u ∧ u.codeReady = s.codeReady ∧
      runSteps 2 s = .next { u with script := rest, returns := s.returns ++ [.byte u.address] }

/-- R166: COMMAND with its micro-steps back to back: UPDATE, `codeReady <- 0`, return `command`. -/
def Obligations.CommandBackToBack : Prop :=
  ∀ (s : State) (a : Placement) (rest : List Entry), s.Live → s.hostPhase = .idle → s.script = ⟨0x43, a⟩ :: rest →
    NotApart rest →
    ∃ u, exec .update s = .next u ∧
      runSteps 3 s = .next
        { u with script := rest, codeReady := false, returns := s.returns ++ [.byte u.command] }

/-- R164, R160, R209: an EDGE, TICK or OVF that the script places between micro-steps 2 and 3 of RAW_CODE or COMMAND is taken
there, on the state micro-step 2 left, and the value returned is the one it left: `rawCode` an EDGE can have changed. The
micro-steps are the spec's own decision D11 (log entry 21), and the script's form is log entry 1. -/
def Obligations.StepBetweenClearAndReturn : Prop :=
  ∀ (s u w : State) (i : Instr) (a : Placement) (rest : List Entry), s.Live → s.hostPhase = .idle →
    ((∃ L, i = .edge L) ∨ i = .tick ∨ i = .ovf) → NotApart rest → exec .update s = .next u → w.faulted = false →
    (s.script = ⟨0x41, a⟩ :: ⟨encode i, .afterSecond⟩ :: rest →
      exec i { u with script := rest, codeReady := false, hostPhase := .rawCodeReturn } = .next w →
      runSteps 4 s = .next { w with returns := s.returns ++ [.word w.rawCode], hostPhase := .idle }) ∧
    (s.script = ⟨0x43, a⟩ :: ⟨encode i, .afterSecond⟩ :: rest →
      exec i { u with script := rest, codeReady := false, hostPhase := .commandReturn } = .next w →
      runSteps 4 s = .next { w with returns := s.returns ++ [.byte u.command], hostPhase := .idle })

/-- R164, W7: a second RAW_CODE with no frame in between returns the same 32-bit value, and `codeReady` is 0 after both
(the spec's own decision D12). -/
def Obligations.SecondRawCodeReturnsSame : Prop :=
  ∀ (s : State) (a : Placement) (rest : List Entry), s.Live → s.hostPhase = .idle →
    s.script = ⟨0x41, a⟩ :: ⟨0x41, .backToBack⟩ :: rest → NotApart rest →
    ∃ t, runSteps 6 s = .next t ∧ t.returns = s.returns ++ [.word s.rawCode, .word s.rawCode] ∧
      t.rawCode = s.rawCode ∧ t.codeReady = false ∧ t.hostPhase = .idle ∧ t.script = rest

/-- R168, W6: SKIP_THIS_CODE followed by CODE_RECEIVED returns 0, whatever was ready before. -/
def Obligations.SkippedCodeIsNotReceived : Prop :=
  ∀ s : State, s.Live → s.hostPhase = .idle →
    execMany [.skipThisCode, .codeReceived] s =
      .next { s with codeReady := false, returns := s.returns ++ [.bit false] }

/-- R171: at most one host operation is in progress: one begun while another is in progress has no step (the stop's name
is log entry 6). -/
def Obligations.HostOperationsExcludeOneAnother : Prop :=
  ∀ s : State, s.Live → s.hostPhase ≠ .idle →
    exec .codeReceived s = .fault .hostBusy ∧ exec .rawCode s = .fault .hostBusy ∧
    exec .address s = .fault .hostBusy ∧ exec .command s = .fault .hostBusy ∧
    exec .newKeyPressed s = .fault .hostBusy ∧ exec .skipThisCode s = .fault .hostBusy

/-- R160, R161, R163 to R168: what UPDATE and the host operations' first micro-steps leave unchanged, in every state. That
RAW_CODE and COMMAND clear `codeReady` and that RAW_CODE, ADDRESS and COMMAND return their value only at later micro-steps
is R160's split, the spec's own decision D11 (log entry 21). -/
def Obligations.HostOperationsFrame : Prop :=
  ∀ s t : State,
    (exec .update s = .next t →
      t = { s with address := t.address, command := t.command, state := t.state, running := t.running }) ∧
    (exec .rawCode s = .next t ∨ exec .address s = .next t ∨ exec .command s = .next t →
      t = { s with
        address := t.address, command := t.command, state := t.state, running := t.running
        hostPhase := t.hostPhase }) ∧
    (exec .codeReceived s = .next t ∨ exec .newKeyPressed s = .next t → t = { s with returns := t.returns }) ∧
    (exec .skipThisCode s = .next t → t = { s with codeReady := t.codeReady })

/-- R238, H12, with R102 and R107 to R110 for the bit: the 32nd bit between micro-steps 1 and 2 of a COMMAND issued with no
code ready: the ready flag is lost, the command of the previous validation is returned, and the machine is left as R237
says. Under UPDATE_RESET_UNCONDITIONAL = false (D10, log entry 16), with the micro-steps of D11 (log entry 21). The closed window is the spec's own decision D5 (log
entry 10), the count reset at every edge D6 (log entry 11), staying in GET_PULSE with 32 bits D7 (log entry 13), and that
the script places the EDGE after micro-step 1 is log entry 1. -/
def Obligations.CommandLosesFrameCompletedMidway : Prop :=
  ∀ (s : State) (a : Placement) (rest : List Entry), s.Live → s.hostPhase = .idle → s.codeReady = false →
    s.config.updateResetUnconditional = false → s.state = .getPulse → s.bitIndex = 31 →
    s.config.lowMin ≤ s.count.toNat → s.count.toNat ≤ s.config.highMax →
    s.script = ⟨0x43, a⟩ :: ⟨0x10, .afterFirst⟩ :: rest → NotApart rest →
    runSteps 4 s = .next { s with
      script := rest, count := 0, bitIndex := 32, isRepeat := false, codeReady := false
      rawCode := s.rawCode ||| ((if s.count.toNat < s.config.lowMax then 0#32 else 1#32) <<< 31)
      returns := s.returns ++ [.byte s.command] }

/-! ## Operation words (30_encoding.md) -/

/-- R71, R72 to R76: words written out from the encodings. -/
def Obligations.TableWordsDecode : Prop :=
  decode 0b00010000 = .ok (.edge false) ∧ decode 0b00010001 = .ok (.edge true) ∧ decode 0b00100000 = .ok .tick ∧
  decode 0b00110000 = .ok .ovf ∧ decode 0b01000000 = .ok .codeReceived ∧ decode 0b01000001 = .ok .rawCode ∧
  decode 0b01000010 = .ok .address ∧ decode 0b01000011 = .ok .command ∧ decode 0b01000100 = .ok .newKeyPressed ∧
  decode 0b01000101 = .ok .skipThisCode

/-- R79: a word decodes to an operation exactly when it is that operation's word and may be presented on its own. The
words are the spec's own decision D15. -/
def Obligations.DecodeAgreesWithEncode : Prop :=
  ∀ (w : Byte) (i : Instr), decode w = .ok i ↔ i.wellFormed = true ∧ encode i = w

/-- R77: 0x31 is refused as an internal operation, and every word outside the table as illegal (D15). -/
def Obligations.OtherWordsAreRefused : Prop :=
  ∀ w : Byte,
    (decode w = .error .internalOp ↔ w = 0x31) ∧
    (decode w = .error .illegalOp ↔
      w < 0x10 ∨ (0x12 ≤ w ∧ w ≤ 0x1F) ∨ (0x21 ≤ w ∧ w ≤ 0x2F) ∨ (0x32 ≤ w ∧ w ≤ 0x3F) ∨ 0x46 ≤ w)

/-! ## A step -/

/-- R18, R84, R160: when the next word decodes to an operation, and the host is idle or the script places an EDGE, TICK or
OVF before the next micro-step of the operation in progress, a step is that operation with the word taken off the script.
How the script places a word is log entry 1. -/
def Obligations.StepRunsDecodedOperation : Prop :=
  ∀ (s : State) (w : Byte) (a : Placement) (rest : List Entry) (i : Instr),
    s.script = ⟨w, a⟩ :: rest → decode w = .ok i →
    (s.hostPhase = .idle ∨
      ((a = .afterFirst ∨ (a = .afterSecond ∧ (s.hostPhase = .rawCodeReturn ∨ s.hostPhase = .commandReturn))) ∧
        ((∃ L, i = .edge L) ∨ i = .tick ∨ i = .ovf))) →
    step s = exec i { s with script := rest }

/-- R77, R203: presenting a refused word sets `refused` and changes no other register (D33; the recorded reason and the
next state are log entry 4). -/
def Obligations.StepRefusesWord : Prop :=
  ∀ (s : State) (w : Byte) (a : Placement) (rest : List Entry) (r : WordRefusal),
    s.Live → s.hostPhase = .idle → s.script = ⟨w, a⟩ :: rest → decode w = .error r →
    step s = .next { s with script := rest, refused := true, refusalReason := some r }

/-- R33, R204: a state with an outcome mark takes no further step, by any operation or micro-step, and is not a final
state of a run (D33). -/
def Obligations.MarkedStateTakesNoStep : Prop :=
  ∀ s : State, s.faulted = true ∨ s.refused = true →
    (∀ t, step s ≠ .next t) ∧ (∀ i t, exec i s ≠ .next t) ∧ ¬ EndedWell s

/-- R14, R203: an ill-formed configuration is refused before any step (D37); that one with a TIMER_WIDTH too narrow for its
period (R12) is refused alike is log entry 8. -/
def Obligations.IllFormedConfigIsRefused : Prop :=
  ∀ s : State,
    (s.config.leadPulseMax < s.config.leadPulseLo ∨ s.config.leadSpaceMin < s.config.repeatedMin ∨
      s.config.leadSpaceMax < s.config.leadSpaceMin ∨ s.config.lowMax < s.config.lowMin ∨
      s.config.highMax < s.config.lowMax ∨ s.config.timerPeriod = 0 ∨ 2 ^ s.config.timerWidth < s.config.timerPeriod) →
    step s = .refused .illFormedConfig ∧ ∀ i, exec i s = .refused .illFormedConfig

/-- R243: an idle host and an exhausted script leave no step (the stop's name is log entry 1). -/
def Obligations.RunEndsWithScript : Prop :=
  ∀ s : State, EndedWell s → s.config.wellFormed = true → step s = .fault .scriptExhausted

/-! ## Who writes what: rules over every step -/

/-- R24, R160: `codeReady` is set only by EDGE, at a repeat or at the 32nd bit, and cleared only by RAW_CODE, COMMAND and
SKIP_THIS_CODE; while it is 1 EDGE changes no register. That RAW_CODE and COMMAND clear it at micro-step 2 is the spec's own
decision D11 (log entry 21), and that presenting EDGE takes its word off the script is log entry 1. -/
def Obligations.ReadyFlagWriters : Prop :=
  ∀ s t : State, step s = .next t →
    (s.codeReady = false → t.codeReady = true →
      (∃ L, Presents (.edge L) s) ∧
      ((s.state = .leadSpaceStart ∧ t.isRepeat = true) ∨
        (s.state = .getPulse ∧ t.bitIndex = 32 ∧ t.isRepeat = false))) ∧
    (s.codeReady = true → t.codeReady = false →
      Presents .skipThisCode s ∨
        (fetch s = .microStep ∧ (s.hostPhase = .rawCodeClear ∨ s.hostPhase = .commandClear))) ∧
    (s.codeReady = true → (∃ L, Presents (.edge L) s) → t = { s with script := t.script })

/-- R25: `isRepeat` is set to 1 on repeat detection and to 0 on frame completion, the two events that set `codeReady`, and
nothing else writes it. -/
def Obligations.RepeatFlagWriters : Prop :=
  ∀ s t : State, step s = .next t →
    (t.isRepeat ≠ s.isRepeat →
      (∃ L, Presents (.edge L) s) ∧ s.codeReady = false ∧ t.codeReady = true ∧
      ((t.isRepeat = true ∧ s.state = .leadSpaceStart ∧ t.state = .start) ∨
        (t.isRepeat = false ∧ s.state = .getPulse ∧ t.bitIndex = 32))) ∧
    (s.codeReady = false → t.codeReady = true →
      (s.state = .leadSpaceStart → t.isRepeat = true) ∧ (s.state = .getPulse → t.isRepeat = false))

/-- R26, R27: `address` and `command` change only at a validation that finds `codeReady = 1`, which is micro-step 1 of
RAW_CODE, ADDRESS or COMMAND (the spec's own decision D11, log entry 21). -/
def Obligations.ValidatedFieldWriters : Prop :=
  ∀ s t : State, step s = .next t → t.address ≠ s.address ∨ t.command ≠ s.command →
    s.codeReady = true ∧ PresentsUpdate s

/-- R23, R22: `rawCode` and `bitIndex` change only at EDGE; a change either clears both, on entry to GET_PULSE, or counts
one bit and loses no bit of `rawCode`. That a violation, an overflow and a host operation keep both is the spec's own
decision D24 (log entry 13). -/
def Obligations.AccumulatorWriters : Prop :=
  ∀ s t : State, step s = .next t → t.rawCode ≠ s.rawCode ∨ t.bitIndex ≠ s.bitIndex →
    (∃ L, Presents (.edge L) s) ∧ s.codeReady = false ∧
    ((s.state = .leadSpaceStart ∧ t.state = .getPulse ∧ t.rawCode = 0 ∧ t.bitIndex = 0) ∨
      (s.state = .getPulse ∧ t.bitIndex = s.bitIndex + 1 ∧ s.bitIndex < 32 ∧
        ∀ k, s.rawCode.getLsbD k = true → t.rawCode.getLsbD k = true))

/-- R20, R21, R28 to R30: `state` and `running` are written only by EDGE, OVF and the validation step, `ovfPending` is set
only by TICK and cleared only by OVF, and `count` changes only by EDGE and TICK. That nothing but OVF clears a pending
overflow, a pause included, is the spec's own decision D17 (log entry 19). -/
def Obligations.TimerAndStateWriters : Prop :=
  ∀ s t : State, step s = .next t →
    (t.state ≠ s.state ∨ t.running ≠ s.running → (∃ L, Presents (.edge L) s) ∨ Presents .ovf s ∨ PresentsUpdate s) ∧
    (s.ovfPending = false → t.ovfPending = true → Presents .tick s) ∧
    (s.ovfPending = true → t.ovfPending = false → Presents .ovf s) ∧
    (t.count.toNat ≠ s.count.toNat → (∃ L, Presents (.edge L) s) ∨ Presents .tick s)

/-- R37 (I4), R56: while a code is ready no step changes the frame registers, and the only change of state is to START, by
OVF or the validation step. That OVF keeps `rawCode` and `bitIndex` is the spec's own decision D24 (log entry 13). -/
def Obligations.ReadyFrameIsLocked : Prop :=
  ∀ s t : State, step s = .next t → s.codeReady = true →
    t.rawCode = s.rawCode ∧ t.bitIndex = s.bitIndex ∧ t.isRepeat = s.isRepeat ∧
    (t.state ≠ s.state → t.state = .start ∧ (Presents .ovf s ∨ PresentsUpdate s))

/-- R111, R237, R238: the state in which a further bit faults is entered only by discarding a completed frame: by
SKIP_THIS_CODE, or at micro-step 2 of RAW_CODE or COMMAND. The fault is the spec's own decision D8 (log entry 14), the state
after the 32nd bit D7 (log entry 13), and the micro-steps D11 (log entry 21). -/
def Obligations.OverrunStateNeedsDiscard : Prop :=
  ∀ s t : State, step s = .next t → Discarded t → ¬ Discarded s →
    s.codeReady = true ∧
    (Presents .skipThisCode s ∨
      (fetch s = .microStep ∧ (s.hostPhase = .rawCodeClear ∨ s.hostPhase = .commandClear)))

/-- R6, R10, R12: no step depends on LEAD_PULSE_MIN and TICK_US, and none depends on TIMER_WIDTH, in a state whose count is
in its range (R29) and between widths that both hold the period (R12). -/
def Obligations.UnreadParametersDoNotMatter : Prop :=
  (∀ (s : State) (a b : Nat), step (withUnread a b s) = mapNext (withUnread a b) (step s)) ∧
  (∀ (s : State) (w : Nat), s.count.toNat < s.config.timerPeriod →
    s.config.timerPeriod ≤ 2 ^ s.config.timerWidth → s.config.timerPeriod ≤ 2 ^ w →
    step (withTimerWidth w s) = mapNext (withTimerWidth w) (step s))

/-! ## Invariants -/

/-- R37 (I1, I2, I3), R29: every step keeps the invariants. -/
def Obligations.StepKeepsFrameInv : Prop :=
  ∀ s t : State, FrameInv s → step s = .next t → FrameInv t

/-- R109: every step keeps the bits of `rawCode` at and above `bitIndex` at 0. That a violation and an overflow keep both
registers is the spec's own decision D24 (log entry 13). -/
def Obligations.StepKeepsCodeBelowIndex : Prop :=
  ∀ s t : State, CodeBelowIndex s → step s = .next t → CodeBelowIndex t

/-- R202, R203: every step keeps outcome marks and their records together. A step is taken only in a state with neither
mark (R33, R204); that the records exist is log entries 3 and 4. -/
def Obligations.StepKeepsMarksAgree : Prop :=
  ∀ s t : State, MarksAgree s → step s = .next t → MarksAgree t

/-- R231, R243: no step changes the configuration, and the returned values only grow: a step returns at most one value, at
its end, and takes at most one word off the script (R83). The two lists are the model's own fields (log entries 1, 2). -/
def Obligations.StepKeepsConfigAndExtendsReturns : Prop :=
  ∀ s t : State, step s = .next t →
    t.config = s.config ∧ (t.returns = s.returns ∨ ∃ v, t.returns = s.returns ++ [v]) ∧
    (t.script = s.script ∨ ∃ x, s.script = x :: t.script)

/-- R36, R232: the state after reset. Values other than `running` and `state` are the spec's own decision D13; the
configuration is the default record (log entry 7), and nothing is presented, returned or recorded (log entries 1 to 4). -/
def Obligations.ResetState : Prop :=
  State.reset =
    { state := .start, bitIndex := 0, rawCode := 0x00000000, codeReady := false, isRepeat := false, address := 0x00
      command := 0x00, running := false, count := 0, ovfPending := false, hostPhase := .idle, faulted := false
      refused := false, faultRecord := none, refusalReason := none
      config := { leadPulseMin := 8800, leadPulseMax := 9200, leadSpaceMin := 4400, leadSpaceMax := 4600
                  repeatedMin := 2200, lowMin := 460, lowMax := 660, highMax := 1790, leadPulseLo := 2200
                  timerPeriod := 10000, tickUs := 1, updateResetUnconditional := false, timerWidth := 14 }
      script := [], returns := [] }

/-- R14, R36, R37, R109, R232: under every well-formed configuration and every script, the state in which a run starts meets
the invariants; the default record is well formed. The zeros that the bounds on the count and the code rest on are the
spec's own decision D13 (log entry 9), and that nothing is recorded with the marks clear is log entries 3 and 4. -/
def Obligations.StartMeetsInvariants : Prop :=
  Config.default.wellFormed = true ∧
  ∀ (c : Config) (script : List Entry), c.wellFormed = true →
    (started c script).Live ∧ FrameInv (started c script) ∧ CodeBelowIndex (started c script) ∧
    MarksAgree (started c script)

/-! ## Frames: the block as a decoder -/

/-- R51, R106 to R110: from the entry to GET_PULSE, any 32 marks and spaces that stay below the period, the spaces inside
`[LOW_MIN, HIGH_MAX]`, complete a frame whose bit `k` is 1 exactly when the `k`-th space is at least LOW_MAX. The closed window is the spec's own
decision D5 (log entry 10), the count reset at every edge D6 (log entry 11), and the state after the 32nd bit D7 (log entry
13). -/
def Obligations.ThirtyTwoSpacesFillRawCode : Prop :=
  ∀ (s : State) (bits : List (Nat × Nat)),
    s.Live → s.state = .getPulse → s.codeReady = false → s.bitIndex = 0 → s.rawCode = 0 → s.running = true →
    s.count = 0 → bits.length = 32 →
    (∀ p ∈ bits, p.1 < s.config.timerPeriod ∧ p.2 < s.config.timerPeriod ∧ s.config.lowMin ≤ p.2 ∧
      p.2 ≤ s.config.highMax) →
    ∃ v : Code,
      execMany (bits.flatMap fun p => markSpaceOps p.1 p.2) s =
        .next { s with rawCode := v, bitIndex := 32, codeReady := true, isRepeat := false } ∧
      ∀ (k : Nat) (h : k < bits.length), (v.getLsbD k = true ↔ s.config.lowMax ≤ (bits[k]).2)

/-- W1, R85: under the default configuration, from START with no code ready, `FRAME v` is received as `v`, for every `v`;
the trailing edge is dropped. The defaults of TIMER_PERIOD, HIGH_MAX and LEAD_PULSE_LO are the spec's own decisions D3, D4
and D20 (log entry 7), the count reset at every edge D6 (log entry 11), and the state after the 32nd bit D7 (log entry
13). -/
def Obligations.FrameIsReceived : Prop :=
  ∀ (s : State) (v : Code), s.Live → s.config = Config.default → s.state = .start → s.codeReady = false →
    execMany (frameOps v) s =
      .next { s with
        state := .getPulse, rawCode := v, bitIndex := 32, codeReady := true, isRepeat := false, running := true
        count := 560 }

/-- W4, R85: under the default configuration, from START with no code ready, a repeat lead is received as a repeat and
keeps the code of the frame before it. The defaults of TIMER_PERIOD and LEAD_PULSE_LO are the spec's own decisions D3 and D20
(log entry 7), and the count reset at every edge is D6 (log entry 11). -/
def Obligations.RepeatIsReceived : Prop :=
  ∀ s : State, s.Live → s.config = Config.default → s.state = .start → s.codeReady = false →
    execMany repeatLeadOps s =
      .next { s with codeReady := true, isRepeat := true, running := true, count := 0 }
end

