-- ==== Sys2Proof/Laws/State.lean ====
section
/-! SUPPORT. The state under each shared update: one lemma per field, so that no later proof unfolds a record update. -/

namespace Sys2Proof.Machine

variable (s : State)

/-! ### timerResetCount -/

@[simp] theorem timerResetCount_state : (timerResetCount s).state = s.state := rfl
@[simp] theorem timerResetCount_bitIndex : (timerResetCount s).bitIndex = s.bitIndex := rfl
@[simp] theorem timerResetCount_rawCode : (timerResetCount s).rawCode = s.rawCode := rfl
@[simp] theorem timerResetCount_codeReady : (timerResetCount s).codeReady = s.codeReady := rfl
@[simp] theorem timerResetCount_isRepeat : (timerResetCount s).isRepeat = s.isRepeat := rfl
@[simp] theorem timerResetCount_address : (timerResetCount s).address = s.address := rfl
@[simp] theorem timerResetCount_command : (timerResetCount s).command = s.command := rfl
@[simp] theorem timerResetCount_running : (timerResetCount s).running = s.running := rfl
@[simp] theorem timerResetCount_count : (timerResetCount s).count = 0 := rfl
@[simp] theorem timerResetCount_ovfPending : (timerResetCount s).ovfPending = s.ovfPending := rfl
@[simp] theorem timerResetCount_hostPhase : (timerResetCount s).hostPhase = s.hostPhase := rfl
@[simp] theorem timerResetCount_faulted : (timerResetCount s).faulted = s.faulted := rfl
@[simp] theorem timerResetCount_refused : (timerResetCount s).refused = s.refused := rfl
@[simp] theorem timerResetCount_faultRecord : (timerResetCount s).faultRecord = s.faultRecord := rfl
@[simp] theorem timerResetCount_refusalReason : (timerResetCount s).refusalReason = s.refusalReason := rfl
@[simp] theorem timerResetCount_config : (timerResetCount s).config = s.config := rfl
@[simp] theorem timerResetCount_script : (timerResetCount s).script = s.script := rfl
@[simp] theorem timerResetCount_returns : (timerResetCount s).returns = s.returns := rfl

/-! ### timerStart -/

@[simp] theorem timerStart_state : (timerStart s).state = s.state := rfl
@[simp] theorem timerStart_bitIndex : (timerStart s).bitIndex = s.bitIndex := rfl
@[simp] theorem timerStart_rawCode : (timerStart s).rawCode = s.rawCode := rfl
@[simp] theorem timerStart_codeReady : (timerStart s).codeReady = s.codeReady := rfl
@[simp] theorem timerStart_isRepeat : (timerStart s).isRepeat = s.isRepeat := rfl
@[simp] theorem timerStart_address : (timerStart s).address = s.address := rfl
@[simp] theorem timerStart_command : (timerStart s).command = s.command := rfl
@[simp] theorem timerStart_running : (timerStart s).running = true := rfl
@[simp] theorem timerStart_count : (timerStart s).count = s.count := rfl
@[simp] theorem timerStart_ovfPending : (timerStart s).ovfPending = s.ovfPending := rfl
@[simp] theorem timerStart_hostPhase : (timerStart s).hostPhase = s.hostPhase := rfl
@[simp] theorem timerStart_faulted : (timerStart s).faulted = s.faulted := rfl
@[simp] theorem timerStart_refused : (timerStart s).refused = s.refused := rfl
@[simp] theorem timerStart_faultRecord : (timerStart s).faultRecord = s.faultRecord := rfl
@[simp] theorem timerStart_refusalReason : (timerStart s).refusalReason = s.refusalReason := rfl
@[simp] theorem timerStart_config : (timerStart s).config = s.config := rfl
@[simp] theorem timerStart_script : (timerStart s).script = s.script := rfl
@[simp] theorem timerStart_returns : (timerStart s).returns = s.returns := rfl

/-! ### timerPause -/

@[simp] theorem timerPause_state : (timerPause s).state = s.state := rfl
@[simp] theorem timerPause_bitIndex : (timerPause s).bitIndex = s.bitIndex := rfl
@[simp] theorem timerPause_rawCode : (timerPause s).rawCode = s.rawCode := rfl
@[simp] theorem timerPause_codeReady : (timerPause s).codeReady = s.codeReady := rfl
@[simp] theorem timerPause_isRepeat : (timerPause s).isRepeat = s.isRepeat := rfl
@[simp] theorem timerPause_address : (timerPause s).address = s.address := rfl
@[simp] theorem timerPause_command : (timerPause s).command = s.command := rfl
@[simp] theorem timerPause_running : (timerPause s).running = false := rfl
@[simp] theorem timerPause_count : (timerPause s).count = s.count := rfl
@[simp] theorem timerPause_ovfPending : (timerPause s).ovfPending = s.ovfPending := rfl
@[simp] theorem timerPause_hostPhase : (timerPause s).hostPhase = s.hostPhase := rfl
@[simp] theorem timerPause_faulted : (timerPause s).faulted = s.faulted := rfl
@[simp] theorem timerPause_refused : (timerPause s).refused = s.refused := rfl
@[simp] theorem timerPause_faultRecord : (timerPause s).faultRecord = s.faultRecord := rfl
@[simp] theorem timerPause_refusalReason : (timerPause s).refusalReason = s.refusalReason := rfl
@[simp] theorem timerPause_config : (timerPause s).config = s.config := rfl
@[simp] theorem timerPause_script : (timerPause s).script = s.script := rfl
@[simp] theorem timerPause_returns : (timerPause s).returns = s.returns := rfl

/-! ### returnToStart -/

@[simp] theorem returnToStart_state : (returnToStart s).state = .start := rfl
@[simp] theorem returnToStart_bitIndex : (returnToStart s).bitIndex = s.bitIndex := rfl
@[simp] theorem returnToStart_rawCode : (returnToStart s).rawCode = s.rawCode := rfl
@[simp] theorem returnToStart_codeReady : (returnToStart s).codeReady = s.codeReady := rfl
@[simp] theorem returnToStart_isRepeat : (returnToStart s).isRepeat = s.isRepeat := rfl
@[simp] theorem returnToStart_address : (returnToStart s).address = s.address := rfl
@[simp] theorem returnToStart_command : (returnToStart s).command = s.command := rfl
@[simp] theorem returnToStart_running : (returnToStart s).running = false := rfl
@[simp] theorem returnToStart_count : (returnToStart s).count = s.count := rfl
@[simp] theorem returnToStart_ovfPending : (returnToStart s).ovfPending = s.ovfPending := rfl
@[simp] theorem returnToStart_hostPhase : (returnToStart s).hostPhase = s.hostPhase := rfl
@[simp] theorem returnToStart_faulted : (returnToStart s).faulted = s.faulted := rfl
@[simp] theorem returnToStart_refused : (returnToStart s).refused = s.refused := rfl
@[simp] theorem returnToStart_faultRecord : (returnToStart s).faultRecord = s.faultRecord := rfl
@[simp] theorem returnToStart_refusalReason : (returnToStart s).refusalReason = s.refusalReason := rfl
@[simp] theorem returnToStart_config : (returnToStart s).config = s.config := rfl
@[simp] theorem returnToStart_script : (returnToStart s).script = s.script := rfl
@[simp] theorem returnToStart_returns : (returnToStart s).returns = s.returns := rfl

/-! ### raiseFault -/

@[simp] theorem raiseFault_state (r : FaultRecord) : (raiseFault r s).state = s.state := rfl
@[simp] theorem raiseFault_bitIndex (r : FaultRecord) : (raiseFault r s).bitIndex = s.bitIndex := rfl
@[simp] theorem raiseFault_rawCode (r : FaultRecord) : (raiseFault r s).rawCode = s.rawCode := rfl
@[simp] theorem raiseFault_codeReady (r : FaultRecord) : (raiseFault r s).codeReady = s.codeReady := rfl
@[simp] theorem raiseFault_isRepeat (r : FaultRecord) : (raiseFault r s).isRepeat = s.isRepeat := rfl
@[simp] theorem raiseFault_address (r : FaultRecord) : (raiseFault r s).address = s.address := rfl
@[simp] theorem raiseFault_command (r : FaultRecord) : (raiseFault r s).command = s.command := rfl
@[simp] theorem raiseFault_running (r : FaultRecord) : (raiseFault r s).running = s.running := rfl
@[simp] theorem raiseFault_count (r : FaultRecord) : (raiseFault r s).count = s.count := rfl
@[simp] theorem raiseFault_ovfPending (r : FaultRecord) : (raiseFault r s).ovfPending = s.ovfPending := rfl
@[simp] theorem raiseFault_hostPhase (r : FaultRecord) : (raiseFault r s).hostPhase = s.hostPhase := rfl
@[simp] theorem raiseFault_faulted (r : FaultRecord) : (raiseFault r s).faulted = true := rfl
@[simp] theorem raiseFault_refused (r : FaultRecord) : (raiseFault r s).refused = s.refused := rfl
@[simp] theorem raiseFault_faultRecord (r : FaultRecord) : (raiseFault r s).faultRecord = some r := rfl
@[simp] theorem raiseFault_refusalReason (r : FaultRecord) : (raiseFault r s).refusalReason = s.refusalReason := rfl
@[simp] theorem raiseFault_config (r : FaultRecord) : (raiseFault r s).config = s.config := rfl
@[simp] theorem raiseFault_script (r : FaultRecord) : (raiseFault r s).script = s.script := rfl
@[simp] theorem raiseFault_returns (r : FaultRecord) : (raiseFault r s).returns = s.returns := rfl

/-! ### refuseWord -/

@[simp] theorem refuseWord_state (r : WordRefusal) : (refuseWord r s).state = s.state := rfl
@[simp] theorem refuseWord_bitIndex (r : WordRefusal) : (refuseWord r s).bitIndex = s.bitIndex := rfl
@[simp] theorem refuseWord_rawCode (r : WordRefusal) : (refuseWord r s).rawCode = s.rawCode := rfl
@[simp] theorem refuseWord_codeReady (r : WordRefusal) : (refuseWord r s).codeReady = s.codeReady := rfl
@[simp] theorem refuseWord_isRepeat (r : WordRefusal) : (refuseWord r s).isRepeat = s.isRepeat := rfl
@[simp] theorem refuseWord_address (r : WordRefusal) : (refuseWord r s).address = s.address := rfl
@[simp] theorem refuseWord_command (r : WordRefusal) : (refuseWord r s).command = s.command := rfl
@[simp] theorem refuseWord_running (r : WordRefusal) : (refuseWord r s).running = s.running := rfl
@[simp] theorem refuseWord_count (r : WordRefusal) : (refuseWord r s).count = s.count := rfl
@[simp] theorem refuseWord_ovfPending (r : WordRefusal) : (refuseWord r s).ovfPending = s.ovfPending := rfl
@[simp] theorem refuseWord_hostPhase (r : WordRefusal) : (refuseWord r s).hostPhase = s.hostPhase := rfl
@[simp] theorem refuseWord_faulted (r : WordRefusal) : (refuseWord r s).faulted = s.faulted := rfl
@[simp] theorem refuseWord_refused (r : WordRefusal) : (refuseWord r s).refused = true := rfl
@[simp] theorem refuseWord_faultRecord (r : WordRefusal) : (refuseWord r s).faultRecord = s.faultRecord := rfl
@[simp] theorem refuseWord_refusalReason (r : WordRefusal) : (refuseWord r s).refusalReason = some r := rfl
@[simp] theorem refuseWord_config (r : WordRefusal) : (refuseWord r s).config = s.config := rfl
@[simp] theorem refuseWord_script (r : WordRefusal) : (refuseWord r s).script = s.script := rfl
@[simp] theorem refuseWord_returns (r : WordRefusal) : (refuseWord r s).returns = s.returns := rfl

/-! ### hostReturn -/

@[simp] theorem hostReturn_state (v : HostValue) : (hostReturn v s).state = s.state := rfl
@[simp] theorem hostReturn_bitIndex (v : HostValue) : (hostReturn v s).bitIndex = s.bitIndex := rfl
@[simp] theorem hostReturn_rawCode (v : HostValue) : (hostReturn v s).rawCode = s.rawCode := rfl
@[simp] theorem hostReturn_codeReady (v : HostValue) : (hostReturn v s).codeReady = s.codeReady := rfl
@[simp] theorem hostReturn_isRepeat (v : HostValue) : (hostReturn v s).isRepeat = s.isRepeat := rfl
@[simp] theorem hostReturn_address (v : HostValue) : (hostReturn v s).address = s.address := rfl
@[simp] theorem hostReturn_command (v : HostValue) : (hostReturn v s).command = s.command := rfl
@[simp] theorem hostReturn_running (v : HostValue) : (hostReturn v s).running = s.running := rfl
@[simp] theorem hostReturn_count (v : HostValue) : (hostReturn v s).count = s.count := rfl
@[simp] theorem hostReturn_ovfPending (v : HostValue) : (hostReturn v s).ovfPending = s.ovfPending := rfl
@[simp] theorem hostReturn_hostPhase (v : HostValue) : (hostReturn v s).hostPhase = s.hostPhase := rfl
@[simp] theorem hostReturn_faulted (v : HostValue) : (hostReturn v s).faulted = s.faulted := rfl
@[simp] theorem hostReturn_refused (v : HostValue) : (hostReturn v s).refused = s.refused := rfl
@[simp] theorem hostReturn_faultRecord (v : HostValue) : (hostReturn v s).faultRecord = s.faultRecord := rfl
@[simp] theorem hostReturn_refusalReason (v : HostValue) : (hostReturn v s).refusalReason = s.refusalReason := rfl
@[simp] theorem hostReturn_config (v : HostValue) : (hostReturn v s).config = s.config := rfl
@[simp] theorem hostReturn_script (v : HostValue) : (hostReturn v s).script = s.script := rfl
@[simp] theorem hostReturn_returns (v : HostValue) : (hostReturn v s).returns = s.returns ++ [v] := rfl

/-! ### setPhase -/

@[simp] theorem setPhase_state (p : HostPhase) : (setPhase p s).state = s.state := rfl
@[simp] theorem setPhase_bitIndex (p : HostPhase) : (setPhase p s).bitIndex = s.bitIndex := rfl
@[simp] theorem setPhase_rawCode (p : HostPhase) : (setPhase p s).rawCode = s.rawCode := rfl
@[simp] theorem setPhase_codeReady (p : HostPhase) : (setPhase p s).codeReady = s.codeReady := rfl
@[simp] theorem setPhase_isRepeat (p : HostPhase) : (setPhase p s).isRepeat = s.isRepeat := rfl
@[simp] theorem setPhase_address (p : HostPhase) : (setPhase p s).address = s.address := rfl
@[simp] theorem setPhase_command (p : HostPhase) : (setPhase p s).command = s.command := rfl
@[simp] theorem setPhase_running (p : HostPhase) : (setPhase p s).running = s.running := rfl
@[simp] theorem setPhase_count (p : HostPhase) : (setPhase p s).count = s.count := rfl
@[simp] theorem setPhase_ovfPending (p : HostPhase) : (setPhase p s).ovfPending = s.ovfPending := rfl
@[simp] theorem setPhase_hostPhase (p : HostPhase) : (setPhase p s).hostPhase = p := rfl
@[simp] theorem setPhase_faulted (p : HostPhase) : (setPhase p s).faulted = s.faulted := rfl
@[simp] theorem setPhase_refused (p : HostPhase) : (setPhase p s).refused = s.refused := rfl
@[simp] theorem setPhase_faultRecord (p : HostPhase) : (setPhase p s).faultRecord = s.faultRecord := rfl
@[simp] theorem setPhase_refusalReason (p : HostPhase) : (setPhase p s).refusalReason = s.refusalReason := rfl
@[simp] theorem setPhase_config (p : HostPhase) : (setPhase p s).config = s.config := rfl
@[simp] theorem setPhase_script (p : HostPhase) : (setPhase p s).script = s.script := rfl
@[simp] theorem setPhase_returns (p : HostPhase) : (setPhase p s).returns = s.returns := rfl

/-! ### flagRepeat -/

@[simp] theorem flagRepeat_state : (flagRepeat s).state = s.state := rfl
@[simp] theorem flagRepeat_bitIndex : (flagRepeat s).bitIndex = s.bitIndex := rfl
@[simp] theorem flagRepeat_rawCode : (flagRepeat s).rawCode = s.rawCode := rfl
@[simp] theorem flagRepeat_codeReady : (flagRepeat s).codeReady = true := rfl
@[simp] theorem flagRepeat_isRepeat : (flagRepeat s).isRepeat = true := rfl
@[simp] theorem flagRepeat_address : (flagRepeat s).address = s.address := rfl
@[simp] theorem flagRepeat_command : (flagRepeat s).command = s.command := rfl
@[simp] theorem flagRepeat_running : (flagRepeat s).running = s.running := rfl
@[simp] theorem flagRepeat_count : (flagRepeat s).count = s.count := rfl
@[simp] theorem flagRepeat_ovfPending : (flagRepeat s).ovfPending = s.ovfPending := rfl
@[simp] theorem flagRepeat_hostPhase : (flagRepeat s).hostPhase = s.hostPhase := rfl
@[simp] theorem flagRepeat_faulted : (flagRepeat s).faulted = s.faulted := rfl
@[simp] theorem flagRepeat_refused : (flagRepeat s).refused = s.refused := rfl
@[simp] theorem flagRepeat_faultRecord : (flagRepeat s).faultRecord = s.faultRecord := rfl
@[simp] theorem flagRepeat_refusalReason : (flagRepeat s).refusalReason = s.refusalReason := rfl
@[simp] theorem flagRepeat_config : (flagRepeat s).config = s.config := rfl
@[simp] theorem flagRepeat_script : (flagRepeat s).script = s.script := rfl
@[simp] theorem flagRepeat_returns : (flagRepeat s).returns = s.returns := rfl

/-! ### flagComplete -/

@[simp] theorem flagComplete_state : (flagComplete s).state = s.state := rfl
@[simp] theorem flagComplete_bitIndex : (flagComplete s).bitIndex = s.bitIndex := rfl
@[simp] theorem flagComplete_rawCode : (flagComplete s).rawCode = s.rawCode := rfl
@[simp] theorem flagComplete_codeReady : (flagComplete s).codeReady = true := rfl
@[simp] theorem flagComplete_isRepeat : (flagComplete s).isRepeat = false := rfl
@[simp] theorem flagComplete_address : (flagComplete s).address = s.address := rfl
@[simp] theorem flagComplete_command : (flagComplete s).command = s.command := rfl
@[simp] theorem flagComplete_running : (flagComplete s).running = s.running := rfl
@[simp] theorem flagComplete_count : (flagComplete s).count = s.count := rfl
@[simp] theorem flagComplete_ovfPending : (flagComplete s).ovfPending = s.ovfPending := rfl
@[simp] theorem flagComplete_hostPhase : (flagComplete s).hostPhase = s.hostPhase := rfl
@[simp] theorem flagComplete_faulted : (flagComplete s).faulted = s.faulted := rfl
@[simp] theorem flagComplete_refused : (flagComplete s).refused = s.refused := rfl
@[simp] theorem flagComplete_faultRecord : (flagComplete s).faultRecord = s.faultRecord := rfl
@[simp] theorem flagComplete_refusalReason : (flagComplete s).refusalReason = s.refusalReason := rfl
@[simp] theorem flagComplete_config : (flagComplete s).config = s.config := rfl
@[simp] theorem flagComplete_script : (flagComplete s).script = s.script := rfl
@[simp] theorem flagComplete_returns : (flagComplete s).returns = s.returns := rfl

/-! ### clearReady -/

@[simp] theorem clearReady_state : (clearReady s).state = s.state := rfl
@[simp] theorem clearReady_bitIndex : (clearReady s).bitIndex = s.bitIndex := rfl
@[simp] theorem clearReady_rawCode : (clearReady s).rawCode = s.rawCode := rfl
@[simp] theorem clearReady_codeReady : (clearReady s).codeReady = false := rfl
@[simp] theorem clearReady_isRepeat : (clearReady s).isRepeat = s.isRepeat := rfl
@[simp] theorem clearReady_address : (clearReady s).address = s.address := rfl
@[simp] theorem clearReady_command : (clearReady s).command = s.command := rfl
@[simp] theorem clearReady_running : (clearReady s).running = s.running := rfl
@[simp] theorem clearReady_count : (clearReady s).count = s.count := rfl
@[simp] theorem clearReady_ovfPending : (clearReady s).ovfPending = s.ovfPending := rfl
@[simp] theorem clearReady_hostPhase : (clearReady s).hostPhase = s.hostPhase := rfl
@[simp] theorem clearReady_faulted : (clearReady s).faulted = s.faulted := rfl
@[simp] theorem clearReady_refused : (clearReady s).refused = s.refused := rfl
@[simp] theorem clearReady_faultRecord : (clearReady s).faultRecord = s.faultRecord := rfl
@[simp] theorem clearReady_refusalReason : (clearReady s).refusalReason = s.refusalReason := rfl
@[simp] theorem clearReady_config : (clearReady s).config = s.config := rfl
@[simp] theorem clearReady_script : (clearReady s).script = s.script := rfl
@[simp] theorem clearReady_returns : (clearReady s).returns = s.returns := rfl

/-! ### violation -/

@[simp] theorem violation_state : (violation s).state = .start := rfl
@[simp] theorem violation_bitIndex : (violation s).bitIndex = s.bitIndex := rfl
@[simp] theorem violation_rawCode : (violation s).rawCode = s.rawCode := rfl
@[simp] theorem violation_codeReady : (violation s).codeReady = s.codeReady := rfl
@[simp] theorem violation_isRepeat : (violation s).isRepeat = s.isRepeat := rfl
@[simp] theorem violation_address : (violation s).address = s.address := rfl
@[simp] theorem violation_command : (violation s).command = s.command := rfl
@[simp] theorem violation_running : (violation s).running = false := rfl
@[simp] theorem violation_count : (violation s).count = s.count := rfl
@[simp] theorem violation_ovfPending : (violation s).ovfPending = s.ovfPending := rfl
@[simp] theorem violation_hostPhase : (violation s).hostPhase = s.hostPhase := rfl
@[simp] theorem violation_faulted : (violation s).faulted = s.faulted := rfl
@[simp] theorem violation_refused : (violation s).refused = s.refused := rfl
@[simp] theorem violation_faultRecord : (violation s).faultRecord = s.faultRecord := rfl
@[simp] theorem violation_refusalReason : (violation s).refusalReason = s.refusalReason := rfl
@[simp] theorem violation_config : (violation s).config = s.config := rfl
@[simp] theorem violation_script : (violation s).script = s.script := rfl
@[simp] theorem violation_returns : (violation s).returns = s.returns := rfl

/-! ### edgeStart -/

@[simp] theorem edgeStart_state : (edgeStart s).state = .leadPulseStart := rfl
@[simp] theorem edgeStart_bitIndex : (edgeStart s).bitIndex = s.bitIndex := rfl
@[simp] theorem edgeStart_rawCode : (edgeStart s).rawCode = s.rawCode := rfl
@[simp] theorem edgeStart_codeReady : (edgeStart s).codeReady = s.codeReady := rfl
@[simp] theorem edgeStart_isRepeat : (edgeStart s).isRepeat = s.isRepeat := rfl
@[simp] theorem edgeStart_address : (edgeStart s).address = s.address := rfl
@[simp] theorem edgeStart_command : (edgeStart s).command = s.command := rfl
@[simp] theorem edgeStart_running : (edgeStart s).running = true := rfl
@[simp] theorem edgeStart_count : (edgeStart s).count = s.count := rfl
@[simp] theorem edgeStart_ovfPending : (edgeStart s).ovfPending = s.ovfPending := rfl
@[simp] theorem edgeStart_hostPhase : (edgeStart s).hostPhase = s.hostPhase := rfl
@[simp] theorem edgeStart_faulted : (edgeStart s).faulted = s.faulted := rfl
@[simp] theorem edgeStart_refused : (edgeStart s).refused = s.refused := rfl
@[simp] theorem edgeStart_faultRecord : (edgeStart s).faultRecord = s.faultRecord := rfl
@[simp] theorem edgeStart_refusalReason : (edgeStart s).refusalReason = s.refusalReason := rfl
@[simp] theorem edgeStart_config : (edgeStart s).config = s.config := rfl
@[simp] theorem edgeStart_script : (edgeStart s).script = s.script := rfl
@[simp] theorem edgeStart_returns : (edgeStart s).returns = s.returns := rfl

/-! ### enterGetPulse -/

@[simp] theorem enterGetPulse_state : (enterGetPulse s).state = .getPulse := rfl
@[simp] theorem enterGetPulse_bitIndex : (enterGetPulse s).bitIndex = 0 := rfl
@[simp] theorem enterGetPulse_rawCode : (enterGetPulse s).rawCode = 0 := rfl
@[simp] theorem enterGetPulse_codeReady : (enterGetPulse s).codeReady = s.codeReady := rfl
@[simp] theorem enterGetPulse_isRepeat : (enterGetPulse s).isRepeat = s.isRepeat := rfl
@[simp] theorem enterGetPulse_address : (enterGetPulse s).address = s.address := rfl
@[simp] theorem enterGetPulse_command : (enterGetPulse s).command = s.command := rfl
@[simp] theorem enterGetPulse_running : (enterGetPulse s).running = s.running := rfl
@[simp] theorem enterGetPulse_count : (enterGetPulse s).count = s.count := rfl
@[simp] theorem enterGetPulse_ovfPending : (enterGetPulse s).ovfPending = s.ovfPending := rfl
@[simp] theorem enterGetPulse_hostPhase : (enterGetPulse s).hostPhase = s.hostPhase := rfl
@[simp] theorem enterGetPulse_faulted : (enterGetPulse s).faulted = s.faulted := rfl
@[simp] theorem enterGetPulse_refused : (enterGetPulse s).refused = s.refused := rfl
@[simp] theorem enterGetPulse_faultRecord : (enterGetPulse s).faultRecord = s.faultRecord := rfl
@[simp] theorem enterGetPulse_refusalReason : (enterGetPulse s).refusalReason = s.refusalReason := rfl
@[simp] theorem enterGetPulse_config : (enterGetPulse s).config = s.config := rfl
@[simp] theorem enterGetPulse_script : (enterGetPulse s).script = s.script := rfl
@[simp] theorem enterGetPulse_returns : (enterGetPulse s).returns = s.returns := rfl

/-! ### accumulate -/

@[simp] theorem accumulate_state (b : Bool) : (accumulate b s).state = s.state := rfl
@[simp] theorem accumulate_bitIndex (b : Bool) : (accumulate b s).bitIndex = s.bitIndex + 1 := rfl
@[simp] theorem accumulate_rawCode (b : Bool) : (accumulate b s).rawCode = orBitAt s.rawCode s.bitIndex.toNat b := rfl
@[simp] theorem accumulate_codeReady (b : Bool) : (accumulate b s).codeReady = s.codeReady := rfl
@[simp] theorem accumulate_isRepeat (b : Bool) : (accumulate b s).isRepeat = s.isRepeat := rfl
@[simp] theorem accumulate_address (b : Bool) : (accumulate b s).address = s.address := rfl
@[simp] theorem accumulate_command (b : Bool) : (accumulate b s).command = s.command := rfl
@[simp] theorem accumulate_running (b : Bool) : (accumulate b s).running = s.running := rfl
@[simp] theorem accumulate_count (b : Bool) : (accumulate b s).count = s.count := rfl
@[simp] theorem accumulate_ovfPending (b : Bool) : (accumulate b s).ovfPending = s.ovfPending := rfl
@[simp] theorem accumulate_hostPhase (b : Bool) : (accumulate b s).hostPhase = s.hostPhase := rfl
@[simp] theorem accumulate_faulted (b : Bool) : (accumulate b s).faulted = s.faulted := rfl
@[simp] theorem accumulate_refused (b : Bool) : (accumulate b s).refused = s.refused := rfl
@[simp] theorem accumulate_faultRecord (b : Bool) : (accumulate b s).faultRecord = s.faultRecord := rfl
@[simp] theorem accumulate_refusalReason (b : Bool) : (accumulate b s).refusalReason = s.refusalReason := rfl
@[simp] theorem accumulate_config (b : Bool) : (accumulate b s).config = s.config := rfl
@[simp] theorem accumulate_script (b : Bool) : (accumulate b s).script = s.script := rfl
@[simp] theorem accumulate_returns (b : Bool) : (accumulate b s).returns = s.returns := rfl

/-! ### overflowHandler -/

@[simp] theorem overflowHandler_state : (overflowHandler s).state = .start := rfl
@[simp] theorem overflowHandler_bitIndex : (overflowHandler s).bitIndex = s.bitIndex := rfl
@[simp] theorem overflowHandler_rawCode : (overflowHandler s).rawCode = s.rawCode := rfl
@[simp] theorem overflowHandler_codeReady : (overflowHandler s).codeReady = s.codeReady := rfl
@[simp] theorem overflowHandler_isRepeat : (overflowHandler s).isRepeat = s.isRepeat := rfl
@[simp] theorem overflowHandler_address : (overflowHandler s).address = s.address := rfl
@[simp] theorem overflowHandler_command : (overflowHandler s).command = s.command := rfl
@[simp] theorem overflowHandler_running : (overflowHandler s).running = false := rfl
@[simp] theorem overflowHandler_count : (overflowHandler s).count = s.count := rfl
@[simp] theorem overflowHandler_ovfPending : (overflowHandler s).ovfPending = false := rfl
@[simp] theorem overflowHandler_hostPhase : (overflowHandler s).hostPhase = s.hostPhase := rfl
@[simp] theorem overflowHandler_faulted : (overflowHandler s).faulted = s.faulted := rfl
@[simp] theorem overflowHandler_refused : (overflowHandler s).refused = s.refused := rfl
@[simp] theorem overflowHandler_faultRecord : (overflowHandler s).faultRecord = s.faultRecord := rfl
@[simp] theorem overflowHandler_refusalReason : (overflowHandler s).refusalReason = s.refusalReason := rfl
@[simp] theorem overflowHandler_config : (overflowHandler s).config = s.config := rfl
@[simp] theorem overflowHandler_script : (overflowHandler s).script = s.script := rfl
@[simp] theorem overflowHandler_returns : (overflowHandler s).returns = s.returns := rfl

/-! ### validateFields -/

@[simp] theorem validateFields_state : (validateFields s).state = s.state := rfl
@[simp] theorem validateFields_bitIndex : (validateFields s).bitIndex = s.bitIndex := rfl
@[simp] theorem validateFields_rawCode : (validateFields s).rawCode = s.rawCode := rfl
@[simp] theorem validateFields_codeReady : (validateFields s).codeReady = s.codeReady := rfl
@[simp] theorem validateFields_isRepeat : (validateFields s).isRepeat = s.isRepeat := rfl
@[simp] theorem validateFields_address : (validateFields s).address = validate8 (addrByte s.rawCode) (addrInvByte s.rawCode) := rfl
@[simp] theorem validateFields_command : (validateFields s).command = validate8 (cmdByte s.rawCode) (cmdInvByte s.rawCode) := rfl
@[simp] theorem validateFields_running : (validateFields s).running = s.running := rfl
@[simp] theorem validateFields_count : (validateFields s).count = s.count := rfl
@[simp] theorem validateFields_ovfPending : (validateFields s).ovfPending = s.ovfPending := rfl
@[simp] theorem validateFields_hostPhase : (validateFields s).hostPhase = s.hostPhase := rfl
@[simp] theorem validateFields_faulted : (validateFields s).faulted = s.faulted := rfl
@[simp] theorem validateFields_refused : (validateFields s).refused = s.refused := rfl
@[simp] theorem validateFields_faultRecord : (validateFields s).faultRecord = s.faultRecord := rfl
@[simp] theorem validateFields_refusalReason : (validateFields s).refusalReason = s.refusalReason := rfl
@[simp] theorem validateFields_config : (validateFields s).config = s.config := rfl
@[simp] theorem validateFields_script : (validateFields s).script = s.script := rfl
@[simp] theorem validateFields_returns : (validateFields s).returns = s.returns := rfl

end Sys2Proof.Machine
end

