-- ==== Sys2Proof/Laws/Ops.lean ====
section
/-! SUPPORT. What each shared operation can do, said once: the guards, the windows, the accepted edge, and a step's cases. -/

namespace Sys2Proof.Machine

/-! ## Guards -/

theorem whenLive_of_live {s : State} (h : s.Live) (k : State → Result) : whenLive s k = k s := by
  simp [whenLive, h.1, h.2.1, h.2.2]

theorem whenLive_next {s t : State} {k : State → Result} (h : whenLive s k = .next t) : s.Live ∧ k s = .next t := by
  unfold whenLive at h
  split at h
  · split at h
    · cases h
    · split at h
      · cases h
      · exact ⟨⟨‹_›, by simpa using ‹¬ s.faulted = true›, by simpa using ‹¬ s.refused = true›⟩, h⟩
  · cases h

theorem whenLive_marked {s t : State} (k : State → Result) (h : s.faulted = true ∨ s.refused = true) :
    whenLive s k ≠ .next t := fun hk => by
  have := (whenLive_next hk).1
  rcases h with h | h <;> simp_all

theorem whenLive_illFormed {s : State} (k : State → Result) (h : s.config.wellFormed = false) :
    whenLive s k = .refused .illFormedConfig := by
  simp [whenLive, h]

theorem whenIdle_of_idle {s : State} (h : s.Live) (hp : s.hostPhase = .idle) (k : State → Result) :
    whenIdle s k = k s := by
  simp [whenIdle, whenLive_of_live h, hp]

theorem whenIdle_busy {s : State} (h : s.Live) (hp : s.hostPhase ≠ .idle) (k : State → Result) :
    whenIdle s k = .fault .hostBusy := by
  simp [whenIdle, whenLive_of_live h, hp]

theorem whenIdle_next {s t : State} {k : State → Result} (h : whenIdle s k = .next t) :
    s.Live ∧ s.hostPhase = .idle ∧ k s = .next t := by
  obtain ⟨hl, h⟩ := whenLive_next h
  split at h
  · exact ⟨hl, ‹_›, h⟩
  · cases h

/-- A state that can step has a register wide enough for its period (R12, R14). -/
theorem live_timerFits {s : State} (h : s.Live) : s.config.timerPeriod ≤ 2 ^ s.config.timerWidth := by
  have hw := h.1
  simp only [Config.wellFormed, Config.timerFits, Bool.and_eq_true, decide_eq_true_eq] at hw
  exact hw.2

/-- A tick below the period counts one and wraps nothing. -/
theorem toNat_count_add_one {s : State} (h : s.Live) (hc : s.count.toNat + 1 < s.config.timerPeriod) :
    (s.count + 1).toNat = s.count.toNat + 1 := by
  have hf := live_timerFits h
  rw [BitVec.toNat_add, show (1 : BitVec s.config.timerWidth) = BitVec.ofNat _ 1 from rfl, BitVec.toNat_ofNat,
    Nat.mod_eq_of_lt (a := 1) (by omega), Nat.mod_eq_of_lt (by omega)]

/-- A bit counted below 32 wraps nothing in 6 bits. -/
theorem toNat_bitIndex_add_one {b : BitVec 6} (h : b < 32) : (b + 1).toNat = b.toNat + 1 := by bv_omega

/-! ## Windows and the accumulator -/

theorem inWindow_iff (lo hi e : Nat) : inWindow lo hi e = true ↔ lo ≤ e ∧ e ≤ hi := by simp [inWindow]

theorem inWindow_eq_false_iff (lo hi e : Nat) : inWindow lo hi e = false ↔ e < lo ∨ hi < e := by
  rw [← Bool.not_eq_true, inWindow_iff]; omega

theorem classify_iff (c : Config) (e : Nat) : classify c e = true ↔ c.lowMax ≤ e := by simp [classify]

/-- Bit `k` of the accumulator gains the classified bit, and every other bit is kept (R109). -/
theorem getLsbD_orBitAt (v : Code) (k : Nat) (b : Bool) (j : Nat) :
    (orBitAt v k b).getLsbD j = (v.getLsbD j || (b && decide (j = k) && decide (j < 32))) := by
  cases b
  · simp [orBitAt]
  · rw [orBitAt, BitVec.getLsbD_or, BitVec.getLsbD_shiftLeft]
    congr 1
    by_cases hj : j < k
    · simp [hj]; intro h; omega
    · by_cases h : j = k
      · simp [h, BitVec.getLsbD]
      · have : j - k ≠ 0 := by omega
        simp only [h, BitVec.getLsbD_ofBool, BitVec.getLsbD_setWidth, BitVec.zeroExtend, this, decide_false, Bool.false_and, Bool.and_false, Bool.and_true]

/-! ## The Edge Handler -/

/-- Everything an accepted edge can do, with the interval `s.count.toNat` (R102–R112). -/
theorem acceptedEdge_cases (level : Bool) (s : State) :
    (s.state = .start ∧ acceptedEdge level s = edgeStart (timerResetCount s)) ∨
    (s.state = .leadPulseStart ∧ leadPulseOk s.config s.count.toNat = true ∧
      acceptedEdge level s = { timerResetCount s with state := .leadSpaceStart }) ∨
    (s.state = .leadSpaceStart ∧ leadSpaceOk s.config s.count.toNat = true ∧ isRepeatSpace s.config s.count.toNat = true ∧
      acceptedEdge level s = { flagRepeat (timerResetCount s) with state := .start }) ∨
    (s.state = .leadSpaceStart ∧ leadSpaceOk s.config s.count.toNat = true ∧ isRepeatSpace s.config s.count.toNat = false ∧
      acceptedEdge level s = enterGetPulse (timerResetCount s)) ∨
    (s.state ≠ .start ∧ acceptedEdge level s = violation (timerResetCount s)) ∨
    (s.state = .getPulse ∧ level = true ∧ acceptedEdge level s = timerResetCount s) ∨
    (s.state = .getPulse ∧ level = false ∧ dataBitOk s.config s.count.toNat = true ∧ 32 ≤ s.bitIndex ∧
      acceptedEdge level s = raiseFault (overrunRecord s.count.toNat level s) s) ∨
    (s.state = .getPulse ∧ level = false ∧ dataBitOk s.config s.count.toNat = true ∧ s.bitIndex < 32 ∧
      acceptedEdge level s = completeIfFull (accumulate (classify s.config s.count.toNat) (timerResetCount s))) := by
  unfold acceptedEdge edgeCase
  cases hs : s.state
  · simp [hs]
  · simp only [timerResetCount_state, hs, edgeLeadPulse, timerReadCount, timerResetCount_config]
    by_cases h : leadPulseOk s.config s.count.toNat = true <;> simp [h]
  · simp only [timerResetCount_state, hs, edgeLeadSpace, timerReadCount, timerResetCount_config]
    by_cases h : leadSpaceOk s.config s.count.toNat = true <;>
      by_cases h' : isRepeatSpace s.config s.count.toNat = true <;> simp [h, h']
  · simp only [timerResetCount_state, hs, edgeGetPulse, timerReadCount, timerResetCount_config]
    cases level
    · by_cases h : dataBitOk s.config s.count.toNat = true
      · by_cases h' : 32#6 ≤ s.bitIndex
        · simp [h, h', overrunRecord]
        · have : s.bitIndex < 32#6 := BitVec.not_le.mp h'
          simp [h, h', this]
      · simp [h]
    · simp

/-! ## One lemma per operation: what it does when it answers a next state -/

theorem execEdge_next {level : Bool} {s t : State} (h : execEdge level s = .next t) :
    s.Live ∧ t = if s.codeReady then s else acceptedEdge level s := by
  obtain ⟨hl, h⟩ := whenLive_next h
  exact ⟨hl, by injection h with h; exact h.symm⟩

theorem execTick_next {s t : State} (h : execTick s = .next t) :
    s.Live ∧ t = if s.running then countTick s else s := by
  obtain ⟨hl, h⟩ := whenLive_next h
  exact ⟨hl, by injection h with h; exact h.symm⟩

theorem execOvf_next {s t : State} (h : execOvf s = .next t) :
    s.Live ∧ s.ovfPending = true ∧ t = overflowHandler s := by
  obtain ⟨hl, h⟩ := whenLive_next h
  split at h
  · exact ⟨hl, ‹_›, by injection h with h; exact h.symm⟩
  · cases h

theorem execUpdate_next {s t : State} (h : execUpdate s = .next t) : s.Live ∧ t = updateStep s := by
  obtain ⟨hl, h⟩ := whenLive_next h
  exact ⟨hl, by injection h with h; exact h.symm⟩

theorem execCodeReceived_next {s t : State} (h : execCodeReceived s = .next t) :
    s.Live ∧ s.hostPhase = .idle ∧ t = hostReturn (.bit s.codeReady) s := by
  obtain ⟨hl, hp, h⟩ := whenIdle_next h
  exact ⟨hl, hp, by injection h with h; exact h.symm⟩

theorem execRawCode_next {s t : State} (h : execRawCode s = .next t) :
    s.Live ∧ s.hostPhase = .idle ∧ t = setPhase .rawCodeClear (updateStep s) := by
  obtain ⟨hl, hp, h⟩ := whenIdle_next h
  exact ⟨hl, hp, by injection h with h; exact h.symm⟩

theorem execAddress_next {s t : State} (h : execAddress s = .next t) :
    s.Live ∧ s.hostPhase = .idle ∧ t = setPhase .addressReturn (updateStep s) := by
  obtain ⟨hl, hp, h⟩ := whenIdle_next h
  exact ⟨hl, hp, by injection h with h; exact h.symm⟩

theorem execCommand_next {s t : State} (h : execCommand s = .next t) :
    s.Live ∧ s.hostPhase = .idle ∧ t = setPhase .commandClear (updateStep s) := by
  obtain ⟨hl, hp, h⟩ := whenIdle_next h
  exact ⟨hl, hp, by injection h with h; exact h.symm⟩

theorem execNewKeyPressed_next {s t : State} (h : execNewKeyPressed s = .next t) :
    s.Live ∧ s.hostPhase = .idle ∧ t = hostReturn (.bit (!s.isRepeat)) s := by
  obtain ⟨hl, hp, h⟩ := whenIdle_next h
  exact ⟨hl, hp, by injection h with h; exact h.symm⟩

theorem execSkipThisCode_next {s t : State} (h : execSkipThisCode s = .next t) :
    s.Live ∧ s.hostPhase = .idle ∧ t = clearReady s := by
  obtain ⟨hl, hp, h⟩ := whenIdle_next h
  exact ⟨hl, hp, by injection h with h; exact h.symm⟩

theorem hostMicroStep_next {s t : State} (h : hostMicroStep s = .next t) : s.Live ∧ t = microEffect s := by
  obtain ⟨hl, h⟩ := whenLive_next h
  exact ⟨hl, by injection h with h; exact h.symm⟩

/-- The validation step's three cases (R161). -/
theorem updateStep_cases (s : State) :
    (s.codeReady = true ∧ updateStep s = returnToStart (validateFields s)) ∨
    (s.codeReady = false ∧ s.config.updateResetUnconditional = true ∧ updateStep s = returnToStart s) ∨
    (s.codeReady = false ∧ s.config.updateResetUnconditional = false ∧ updateStep s = s) := by
  unfold updateStep
  cases s.codeReady <;> cases s.config.updateResetUnconditional <;> simp

/-- A tick's two cases on a running timer (R141). -/
theorem countTick_cases (s : State) :
    (s.count.toNat = s.config.timerPeriod - 1 ∧ countTick s = { s with count := 0, ovfPending := true }) ∨
    (s.count.toNat ≠ s.config.timerPeriod - 1 ∧ countTick s = { s with count := s.count + 1 }) := by
  unfold countTick
  by_cases h : s.count.toNat = s.config.timerPeriod - 1 <;> simp [h]

/-- What the validation step can write: `address`, `command`, `state` and `running` (R161). -/
theorem updateStep_frame (s : State) :
    updateStep s = { s with
      address := (updateStep s).address, command := (updateStep s).command, state := (updateStep s).state
      running := (updateStep s).running } := by
  rcases updateStep_cases s with h | h | h
  · rw [h.2]; rfl
  · rw [h.2.2]; rfl
  · rw [h.2.2]

/-- The validation step does not look at the script. -/
theorem updateStep_withScript (s : State) (r : List Entry) :
    updateStep { s with script := r } = { updateStep s with script := r } := by
  rcases updateStep_cases s with h | h | h
  · rw [h.2, updateStep, if_pos (by exact h.1)]; rfl
  · rw [h.2.2, updateStep, if_neg (by simp [h.1]), if_pos (by exact h.2.1)]; rfl
  · rw [h.2.2, updateStep, if_neg (by simp [h.1]), if_neg (by simp [h.2.1])]

/-! ## A step's cases -/

@[simp] theorem due_backToBack (h : HostPhase) : Placement.due .backToBack h = false := rfl

/-- A place after micro-step 1 is due at every later micro-step. -/
theorem due_afterFirst (h : HostPhase) : Placement.due .afterFirst h = true ↔ h ≠ .idle := by cases h <;> decide

/-- A place after micro-step 2 is due before the third. -/
theorem due_afterSecond (h : HostPhase) :
    Placement.due .afterSecond h = true ↔ h = .rawCodeReturn ∨ h = .commandReturn := by cases h <;> decide

/-- What comes next changes nothing but the script. -/
theorem fetch_op {s t : State} {i : Instr} (h : fetch s = .op i t) :
    ∃ x rest, s.script = x :: rest ∧ t = { s with script := rest } ∧ decode x.word = .ok i ∧
      (s.hostPhase = .idle ∨ (x.place.due s.hostPhase = true ∧ wordInterleaves x.word = true)) := by
  unfold fetch at h
  split at h
  · split at h <;> cases h
  · rename_i x rest hx
    split at h
    · refine ⟨x, rest, hx, ?_⟩
      unfold presentWord at h
      split at h
      · cases h
        exact ⟨rfl, ‹_›, ‹_›⟩
      · cases h
    · cases h

theorem fetch_badWord {s t : State} {r : WordRefusal} (h : fetch s = .badWord r t) :
    ∃ x rest, s.script = x :: rest ∧ t = { s with script := rest } ∧ decode x.word = .error r ∧ s.hostPhase = .idle := by
  unfold fetch at h
  split at h
  · split at h <;> cases h
  · rename_i x rest hx
    split at h
    · refine ⟨x, rest, hx, ?_⟩
      rename_i hc
      unfold presentWord at h
      split at h
      · cases h
      · rename_i hd
        cases h
        refine ⟨rfl, hd, ?_⟩
        simpa [wordInterleaves, hd] using hc
    · cases h

theorem fetch_microStep {s : State} (h : fetch s = .microStep) : s.hostPhase ≠ .idle := by
  unfold fetch at h
  split at h
  · split at h
    · cases h
    · assumption
  · split at h
    · unfold presentWord at h
      split at h <;> cases h
    · simp_all

end Sys2Proof.Machine
end

