-- ==== Sys2Proof/Laws/PerInstr.lean ====
section
/-! SUPPORT. Statements about every operation as syntax, one lemma per constructor. -/

/-- The word of an operation names it, stands in the class of its row (R71), and only EDGE's word carries an operand
(R80). -/
def Sys2Proof.Laws.OpWord.Statement (i : Sys2Proof.Instr) : Prop :=
  Sys2Proof.opOfWord (Sys2Proof.encode i) = some i ∧
    Sys2Proof.wordClass (Sys2Proof.encode i) =
      match i with
      | .edge _ => 1
      | .tick => 2
      | .ovf | .update => 3
      | .codeReceived | .rawCode | .address | .command | .newKeyPressed | .skipThisCode => 4

namespace Sys2Proof.Laws.OpWord

theorem edge (level : Bool) : Statement (.edge level) := by cases level <;> exact ⟨by decide, by decide⟩
theorem tick : Statement .tick := ⟨by decide, by decide⟩
theorem ovf : Statement .ovf := ⟨by decide, by decide⟩
theorem update : Statement .update := ⟨by decide, by decide⟩
theorem codeReceived : Statement .codeReceived := ⟨by decide, by decide⟩
theorem rawCode : Statement .rawCode := ⟨by decide, by decide⟩
theorem address : Statement .address := ⟨by decide, by decide⟩
theorem command : Statement .command := ⟨by decide, by decide⟩
theorem newKeyPressed : Statement .newKeyPressed := ⟨by decide, by decide⟩
theorem skipThisCode : Statement .skipThisCode := ⟨by decide, by decide⟩

end Sys2Proof.Laws.OpWord
end

