-- ==== Sys2Proof/Laws/Step.lean ====
section
/-! SUPPORT. Inversion of exec and step: every case in which they answer a next state, said once. -/

namespace Sys2Proof.Machine

/-- Everything an operation that answers a next state can have done. -/
theorem exec_next {i : Instr} {s t : State} (h : exec i s = .next t) :
    s.Live ∧
      ((∃ L, i = .edge L ∧ t = if s.codeReady then s else acceptedEdge L s) ∨
       (i = .tick ∧ t = if s.running then countTick s else s) ∨
       (i = .ovf ∧ s.ovfPending = true ∧ t = overflowHandler s) ∨
       (i = .update ∧ t = updateStep s) ∨
       (i = .codeReceived ∧ s.hostPhase = .idle ∧ t = hostReturn (.bit s.codeReady) s) ∨
       (i = .rawCode ∧ s.hostPhase = .idle ∧ t = setPhase .rawCodeClear (updateStep s)) ∨
       (i = .address ∧ s.hostPhase = .idle ∧ t = setPhase .addressReturn (updateStep s)) ∨
       (i = .command ∧ s.hostPhase = .idle ∧ t = setPhase .commandClear (updateStep s)) ∨
       (i = .newKeyPressed ∧ s.hostPhase = .idle ∧ t = hostReturn (.bit (!s.isRepeat)) s) ∨
       (i = .skipThisCode ∧ s.hostPhase = .idle ∧ t = clearReady s)) := by
  cases i with
  | edge L => obtain ⟨hl, ht⟩ := execEdge_next h; exact ⟨hl, .inl ⟨L, rfl, ht⟩⟩
  | tick => obtain ⟨hl, ht⟩ := execTick_next h; exact ⟨hl, by simp [ht]⟩
  | ovf => obtain ⟨hl, hp, ht⟩ := execOvf_next h; exact ⟨hl, by simp [ht, hp]⟩
  | update => obtain ⟨hl, ht⟩ := execUpdate_next h; exact ⟨hl, by simp [ht]⟩
  | codeReceived => obtain ⟨hl, hp, ht⟩ := execCodeReceived_next h; exact ⟨hl, by simp [ht, hp]⟩
  | rawCode => obtain ⟨hl, hp, ht⟩ := execRawCode_next h; exact ⟨hl, by simp [ht, hp]⟩
  | address => obtain ⟨hl, hp, ht⟩ := execAddress_next h; exact ⟨hl, by simp [ht, hp]⟩
  | command => obtain ⟨hl, hp, ht⟩ := execCommand_next h; exact ⟨hl, by simp [ht, hp]⟩
  | newKeyPressed => obtain ⟨hl, hp, ht⟩ := execNewKeyPressed_next h; exact ⟨hl, by simp [ht, hp]⟩
  | skipThisCode => obtain ⟨hl, hp, ht⟩ := execSkipThisCode_next h; exact ⟨hl, by simp [ht, hp]⟩

/-- Everything a step that answers a next state can have been: a presented operation, a refused word, or a micro-step. -/
theorem step_next {s t : State} (h : step s = .next t) :
    s.Live ∧
      ((∃ i rest, fetch s = .op i { s with script := rest } ∧ exec i { s with script := rest } = .next t ∧
          i.wellFormed = true) ∨
       (∃ r rest, fetch s = .badWord r { s with script := rest } ∧ t = refuseWord r { s with script := rest }) ∨
       (fetch s = .microStep ∧ t = microEffect s)) := by
  unfold step at h
  split at h
  · rename_i i u hf
    obtain ⟨x, rest, -, rfl, hd, -⟩ := fetch_op hf
    have hw : i.wellFormed = true := by
      unfold decode at hd
      split at hd
      · split at hd
        · cases hd; assumption
        · cases hd
      · cases hd
    exact ⟨(exec_next h).1, .inl ⟨i, rest, hf, h, hw⟩⟩
  · rename_i r u hf
    obtain ⟨x, rest, -, rfl, -, -⟩ := fetch_badWord hf
    obtain ⟨hl, h⟩ := whenLive_next h
    exact ⟨hl, .inr (.inl ⟨r, rest, hf, by injection h with h; exact h.symm⟩)⟩
  · rename_i hf
    obtain ⟨hl, h⟩ := hostMicroStep_next h
    exact ⟨hl, .inr (.inr ⟨hf, h⟩)⟩
  · obtain ⟨-, h⟩ := whenLive_next h
    cases h

/-- With no word apart at the head of the script, a host operation in progress takes its next micro-step (R84, R160). -/
theorem step_of_notApart {s : State} (hl : s.Live) (hp : s.hostPhase ≠ .idle) (hn : NotApart s.script) :
    step s = .next (microEffect s) := by
  have hf : fetch s = .microStep := by
    unfold fetch
    split
    · simp [hp]
    · rename_i x rest hx
      simp [hp, hn x (by simp [hx])]
  simp only [step, hf]
  exact whenLive_of_live hl _

/-- What a micro-step can be: the two that clear the ready flag, and the three that return a value (R160). -/
theorem microEffect_cases {s : State} (h : s.hostPhase ≠ .idle) :
    (s.hostPhase = .rawCodeClear ∧ microEffect s = setPhase .rawCodeReturn (clearReady s)) ∨
    (s.hostPhase = .commandClear ∧ microEffect s = setPhase .commandReturn (clearReady s)) ∨
    (∃ v, microEffect s = setPhase .idle (hostReturn v s) ∧
      ((s.hostPhase = .rawCodeReturn ∧ v = .word s.rawCode) ∨ (s.hostPhase = .addressReturn ∧ v = .byte s.address) ∨
       (s.hostPhase = .commandReturn ∧ v = .byte s.command))) := by
  unfold microEffect
  cases hp : s.hostPhase <;> simp_all

theorem execMany_append (as bs : List Instr) (s t : State) (h : execMany as s = .next t) :
    execMany (as ++ bs) s = execMany bs t := by
  induction as generalizing s with
  | nil => cases h; rfl
  | cons i is ih =>
    simp only [execMany, List.cons_append] at h ⊢
    split at h
    · exact ih _ h
    · cases h
    · cases h

end Sys2Proof.Machine
end

