-- ==== Sys2Proof/Tests/Slice0.lean ====
section
/-! SUPPORT. Small tests on the spec's own vectors (95_test_vectors.md), which are also the witnesses that the statements'
hypotheses can be met, and the well-formedness smoke test. -/

namespace Sys2Proof.Tests

open Sys2Proof.Machine

/-- The next state, if a step or an operation answers one. -/
def after : Result → Option State
  | .next t => some t
  | .fault _ => none
  | .refused _ => none

/-- The fault, if it answers one. -/
def faultOf : Result → Option Fault
  | .fault r => some r
  | .next _ => none
  | .refused _ => none

/-- The refusal, if it answers one. -/
def refusalOf : Result → Option Refusal
  | .refused r => some r
  | .next _ => none
  | .fault _ => none

/-- A running timer in a state, with a count (the start states of section 2.1). -/
def at' (st : FsmState) (n : Nat) : State := { State.reset with state := st, running := true, count := BitVec.ofNat _ n }

/-- A frame in progress (the GET_PULSE start states of section 2.1). -/
def inFrame (i n : Nat) (v : Code) : State := { at' .getPulse n with bitIndex := BitVec.ofNat 6 i, rawCode := v }

/-- The start state of H3 and V7. -/
def ready : State := { at' .getPulse 0 with bitIndex := 32, rawCode := 0xEF10FF00, codeReady := true }

/-- A script to present. -/
def withScript (xs : List Entry) (s : State) : State := { s with script := xs }

/-! ## Well-formedness: an ill-formed term for each check -/

theorem test_update_is_no_word : Instr.update.wellFormed = false := by decide
theorem test_default_config : Config.default.wellFormed = true ∧ Config.default.timerFits = true := by decide
theorem test_config_lead_pulse : ({ leadPulseLo := 9201 } : Config).wellFormed = false := by decide
theorem test_config_repeat : ({ repeatedMin := 4401 } : Config).wellFormed = false := by decide
theorem test_config_lead_space : ({ leadSpaceMin := 4601 } : Config).wellFormed = false := by decide
theorem test_config_low : ({ lowMin := 661 } : Config).wellFormed = false := by decide
theorem test_config_high : ({ highMax := 659 } : Config).wellFormed = false := by decide
theorem test_config_period : ({ timerPeriod := 0 } : Config).wellFormed = false := by decide
theorem test_timer_too_narrow : ({ timerWidth := 13 } : Config).wellFormed = false := by decide

/-! ## Words (section 2.5) -/

theorem test_edge_words : decode 0x10 = .ok (.edge false) ∧ decode 0x11 = .ok (.edge true) := by decide
theorem test_timer_words : decode 0x20 = .ok .tick ∧ decode 0x30 = .ok .ovf := by decide
theorem test_host_words :
    decode 0x40 = .ok .codeReceived ∧ decode 0x41 = .ok .rawCode ∧ decode 0x42 = .ok .address ∧
    decode 0x43 = .ok .command ∧ decode 0x44 = .ok .newKeyPressed ∧ decode 0x45 = .ok .skipThisCode := by decide
theorem test_refused_words :
    decode 0x31 = .error .internalOp ∧
    ∀ w ∈ [0x00, 0x12, 0x1F, 0x21, 0x32, 0x46, 0x50, 0x80, 0xFF], decode w = .error .illegalOp := by decide
theorem test_table_words : decodeTableWord 8 0x43 = some .command ∧ decodeTableWord 8 0x31 = none := by decide

/-! ## EDGE (section 2.1) -/

/-- E25, E26. -/
theorem test_edge_dropped :
    let s : State := { ready with count := 777 }
    s.Live ∧ s.codeReady = true ∧ after (exec (.edge false) s) = some s := by decide

/-- E1, E2. -/
theorem test_edge_start :
    let s : State := { State.reset with count := 1234 }
    s.Live ∧ s.codeReady = false ∧ s.state = .start ∧ after (exec (.edge true) s) = some (at' .leadPulseStart 0) ∧
    after (exec (.edge false) State.reset) = some (at' .leadPulseStart 0) := by decide

/-- E3 to E6: both sides of both bounds of the lead-pulse window. -/
theorem test_edge_lead_pulse :
    (at' .leadPulseStart 2199).Live ∧ (at' .leadPulseStart 2199).codeReady = false ∧
    (at' .leadPulseStart 2199).state = .leadPulseStart ∧
    after (exec (.edge true) (at' .leadPulseStart 2199)) = some State.reset ∧
    after (exec (.edge true) (at' .leadPulseStart 2200)) = some (at' .leadSpaceStart 0) ∧
    after (exec (.edge false) (at' .leadPulseStart 9200)) = some (at' .leadSpaceStart 0) ∧
    after (exec (.edge true) (at' .leadPulseStart 9201)) = some State.reset := by decide

/-- E8, E9, E11, E12, E13: both sides of every bound of the lead space. -/
theorem test_edge_lead_space :
    let s (n : Nat) : State := { at' .leadSpaceStart n with rawCode := 0x12345678, bitIndex := 7 }
    (s 2199).Live ∧ (s 2199).codeReady = false ∧ (s 2199).state = .leadSpaceStart ∧
    after (exec (.edge false) (s 2199)) = some { s 0 with state := .start, running := false } ∧
    after (exec (.edge false) (s 2200)) = some { s 0 with state := .start, codeReady := true, isRepeat := true } ∧
    after (exec (.edge false) (s 4399)) = some { s 0 with state := .start, codeReady := true, isRepeat := true } ∧
    after (exec (.edge false) (s 4400)) = some (at' .getPulse 0) ∧
    after (exec (.edge false) (s 4600)) = some (at' .getPulse 0) ∧
    after (exec (.edge false) (s 4601)) = some { s 0 with state := .start, running := false } := by decide

/-- E21, E29. -/
theorem test_edge_high :
    let s := inFrame 9 3000 0
    s.Live ∧ s.codeReady = false ∧ s.state = .getPulse ∧ after (exec (.edge true) s) = some (inFrame 9 0 0) ∧
    after (exec (.edge true) (inFrame 32 560 0)) = some (inFrame 32 0 0) := by decide

/-- E14, E20, E22, E28. -/
theorem test_edge_bit_violation :
    let s := inFrame 9 459 0x1FF
    s.Live ∧ s.codeReady = false ∧ s.state = .getPulse ∧ s.count < s.config.lowMin ∧
    after (exec (.edge false) s) = some { inFrame 9 0 0x1FF with state := .start, running := false } ∧
    after (exec (.edge false) (inFrame 0 1791 0)) = some State.reset ∧
    after (exec (.edge false) (inFrame 32 300 0)) = some { State.reset with bitIndex := 32 } := by decide

/-- E15 to E19: both sides of LOW_MAX, and both bounds of the window. -/
theorem test_edge_bit :
    let s := inFrame 5 660 0
    s.Live ∧ s.codeReady = false ∧ s.state = .getPulse ∧ s.config.lowMin ≤ s.count ∧ s.count ≤ s.config.highMax ∧
    s.bitIndex < 32 ∧
    after (exec (.edge false) s) = some (inFrame 6 0 0x20) ∧
    after (exec (.edge false) (inFrame 5 659 0)) = some (inFrame 6 0 0) ∧
    after (exec (.edge false) (inFrame 0 460 0)) = some (inFrame 1 0 0) ∧
    after (exec (.edge false) (inFrame 0 1790 0)) = some (inFrame 1 0 1) := by decide

/-- E23, E24. -/
theorem test_edge_completes :
    after (exec (.edge false) (inFrame 31 1000 0x7FFFFFFF)) =
      some { inFrame 32 0 0xFFFFFFFF with codeReady := true } ∧
    after (exec (.edge false) { inFrame 31 500 0 with isRepeat := true }) =
      some { inFrame 32 0 0 with codeReady := true } := by decide

/-- E27. -/
theorem test_edge_overrun :
    let s := inFrame 32 560 0
    s.Live ∧ s.codeReady = false ∧ s.state = .getPulse ∧ s.config.lowMin ≤ s.count ∧ s.count ≤ s.config.highMax ∧
    32 ≤ s.bitIndex ∧
    after (exec (.edge false) s) =
      some { s with faulted := true, faultRecord := some ⟨.bitOverrun, 560, false, 32⟩ } := by decide

/-! ## TICK and OVF (section 2.2) -/

/-- T1 to T5. -/
theorem test_tick :
    let paused : State := { State.reset with count := 42 }
    paused.Live ∧ after (exec .tick paused) = some paused ∧
    after (exec .tick (at' .getPulse 9998)) = some (at' .getPulse 9999) ∧
    after (exec .tick (at' .getPulse 9999)) = some { at' .getPulse 0 with ovfPending := true } ∧
    after (exec .tick { at' .getPulse 9999 with ovfPending := true }) =
      some { at' .getPulse 0 with ovfPending := true } := by decide

/-- T11: a period of one tick. -/
theorem test_tick_period_one :
    let s : State := { at' .getPulse 0 with config := { timerPeriod := 1, timerWidth := 0 }, count := 0 }
    after (exec .tick s) = some { s with ovfPending := true } := by decide

/-- T7, T8. -/
theorem test_ovf :
    let s : State := { inFrame 3 12 5 with ovfPending := true }
    s.Live ∧ s.ovfPending = true ∧
    after (exec .ovf s) = some { inFrame 3 12 5 with state := .start, running := false } ∧
    after (exec .ovf { ready with ovfPending := true }) = some { ready with state := .start, running := false } := by decide

/-- T6. -/
theorem test_ovf_stuck :
    State.reset.Live ∧ State.reset.ovfPending = false ∧ faultOf (exec .ovf State.reset) = some .stuckNoOverflow := by decide

theorem test_ticks_hypotheses :
    let s := at' .getPulse 3
    s.Live ∧ s.running = true ∧ s.count + 2 < s.config.timerPeriod ∧ s.count < s.config.timerPeriod ∧
    after (execMany (ticksOps 2) s) = some (at' .getPulse 5) := by decide

/-- R145 at a period of three ticks: the wrap, then the Overflow Handler. -/
theorem test_silence :
    let s : State := { at' .getPulse 1 with config := { timerPeriod := 3 } }
    after (execMany (ticksOps 3) s) = some { s with ovfPending := true } ∧
    after (execMany (ticksOps 3 ++ [.ovf]) s) = some { s with state := .start, running := false } := by decide

/-! ## UPDATE (section 2.3) -/

/-- V1 to V6: each clause of R162. -/
theorem test_validate8 :
    validate8 0x00 0xFF = 0x00 ∧ validate8 0x10 0xEF = 0x10 ∧ validate8 0xFF 0x00 = 0xFF ∧ validate8 0x04 0xFA = 0xFF ∧
    validate8 0x00 0x00 = 0xFF ∧ validate8 0x5A 0xA5 = 0x5A := by decide

/-- V7, V11. -/
theorem test_update_ready :
    ready.Live ∧ ready.codeReady = true ∧
    after (exec .update ready) = some { ready with address := 0x00, command := 0x10, state := .start, running := false } ∧
    after (exec .update { ready with rawCode := 0x12345678 }) =
      some { ready with rawCode := 0x12345678, address := 0xFF, command := 0xFF, state := .start, running := false } := by
  decide

/-- V9, V10. -/
theorem test_update_not_ready :
    let s : State := { at' .getPulse 0 with address := 0x33 }
    let u : State := { s with config := { updateResetUnconditional := true } }
    s.Live ∧ s.codeReady = false ∧ after (exec .update s) = some s ∧
    after (exec .update u) = some { u with state := .start, running := false } := by decide

/-! ## Host operations (section 2.4) -/

/-- H1. -/
theorem test_code_received :
    State.reset.Live ∧ State.reset.hostPhase = .idle ∧
    after (exec .codeReceived State.reset) = some { State.reset with returns := [.bit false] } ∧
    after (exec .codeReceived ready) = some { ready with returns := [.bit true] } := by decide

/-- H2, H9. -/
theorem test_new_key_pressed :
    after (exec .newKeyPressed State.reset) = some { State.reset with returns := [.bit true] } ∧
    after (exec .newKeyPressed { State.reset with isRepeat := true }) =
      some { State.reset with isRepeat := true, returns := [.bit false] } := by decide

/-- H10, H11. -/
theorem test_skip :
    after (exec .skipThisCode ready) = some { ready with codeReady := false } ∧
    after (execMany [.skipThisCode, .codeReceived] ready) =
      some { ready with codeReady := false, returns := [.bit false] } := by decide

/-- H3. -/
theorem test_raw_code :
    let s := withScript (entries [0x41]) ready
    s.Live ∧ s.hostPhase = .idle ∧ NotApart [] ∧
    after (runSteps 3 s) =
      some { ready with
        codeReady := false, state := .start, running := false, address := 0x00, command := 0x10
        returns := [.word 0xEF10FF00] } := by
  refine ⟨by decide, by decide, ?_, by decide⟩
  intro x h
  cases h

/-- H4. -/
theorem test_raw_code_twice :
    (runSteps 6 (withScript (entries [0x41, 0x41]) ready) |> after).map (·.returns) =
      some [.word 0xEF10FF00, .word 0xEF10FF00] := by decide

/-- H5, H7. -/
theorem test_address :
    after (runSteps 2 (withScript (entries [0x42]) ready)) =
      some { ready with state := .start, running := false, address := 0x00, command := 0x10, returns := [.byte 0x00] } ∧
    after (runSteps 2 (withScript (entries [0x42]) State.reset)) = some { State.reset with returns := [.byte 0x00] } := by
  decide

/-- H6, H8. -/
theorem test_command :
    (after (runSteps 3 (withScript (entries [0x43]) ready))).map (fun t => (t.codeReady, t.returns)) =
      some (false, [.byte 0x10]) ∧
    after (runSteps 3 (withScript (entries [0x43]) State.reset)) = some { State.reset with returns := [.byte 0x00] } := by
  decide

/-- H12: the race between micro-steps 1 and 2. -/
theorem test_command_race :
    let s := withScript [⟨0x43, .backToBack⟩, ⟨0x10, .afterFirst⟩] { inFrame 31 1000 0x7FFFFFFF with command := 0x22 }
    s.Live ∧ s.hostPhase = .idle ∧ s.codeReady = false ∧ s.config.updateResetUnconditional = false ∧
    s.state = .getPulse ∧ s.bitIndex = 31 ∧ s.config.lowMin ≤ s.count ∧ s.count ≤ s.config.highMax ∧
    after (runSteps 4 s) =
      some { inFrame 32 0 0xFFFFFFFF with command := 0x22, returns := [.byte 0x22] } := by decide

/-- R164: an EDGE between micro-steps 2 and 3 of RAW_CODE changes what it returns (R109: bit 1 at position 4). -/
theorem test_raw_code_edge_between :
    let s := withScript [⟨0x41, .backToBack⟩, ⟨0x10, .afterSecond⟩] (inFrame 4 1000 0x3)
    let u := withScript [] (setPhase .rawCodeReturn (inFrame 4 1000 0x3))
    let w := setPhase .rawCodeReturn (inFrame 5 0 0x13)
    s.Live ∧ s.hostPhase = .idle ∧ encode (.edge false) = 0x10 ∧ after (exec .update s) = some s ∧
    w.faulted = false ∧ after (exec (.edge false) u) = some w ∧
    after (runSteps 4 s) = some { inFrame 5 0 0x13 with returns := [.word 0x13] } := by decide

/-- R166: a TICK in the same place; the returned command is the one of micro-step 1. -/
theorem test_command_tick_between :
    let s := withScript [⟨0x43, .backToBack⟩, ⟨0x20, .afterSecond⟩] { at' .getPulse 7 with command := 0x22 }
    after (runSteps 3 s) = some (setPhase .commandReturn { at' .getPulse 8 with command := 0x22 }) ∧
    after (runSteps 4 s) = some { at' .getPulse 8 with command := 0x22, returns := [.byte 0x22] } := by decide

/-- Each phase's micro-step, as R160 lists it. -/
theorem test_micro_steps :
    let s (p : HostPhase) : State := { ready with hostPhase := p, address := 0x12, command := 0x34 }
    (s .rawCodeClear).Live ∧
    (∀ p ∈ [HostPhase.rawCodeClear, .rawCodeReturn, .addressReturn, .commandClear, .commandReturn],
      fetch (s p) = .microStep) ∧
    after (step (s .rawCodeClear)) = some { s .rawCodeReturn with codeReady := false } ∧
    after (step (s .rawCodeReturn)) = some { s .idle with returns := [.word 0xEF10FF00] } ∧
    after (step (s .addressReturn)) = some { s .idle with returns := [.byte 0x12] } ∧
    after (step (s .commandClear)) = some { s .commandReturn with codeReady := false } ∧
    after (step (s .commandReturn)) = some { s .idle with returns := [.byte 0x34] } := by decide

theorem test_host_busy :
    let s := setPhase .addressReturn ready
    s.Live ∧ s.hostPhase ≠ .idle ∧ faultOf (exec .command s) = some .hostBusy := by decide

/-! ## Steps -/

/-- A word presented while idle, and an EDGE written apart from a host operation in progress. -/
theorem test_step_runs_word :
    let s := withScript (entries [0x20]) (at' .getPulse 7)
    let u := withScript [⟨0x10, .afterFirst⟩] (setPhase .commandClear (at' .getPulse 500))
    s.hostPhase = .idle ∧ after (step s) = some (at' .getPulse 8) ∧
    u.hostPhase ≠ .idle ∧ after (step u) = some (setPhase .commandClear (inFrame 1 0 0)) := by decide

/-- An EDGE placed after micro-step 2 waits for it, and is taken before micro-step 3. -/
theorem test_step_after_second :
    let u (p : HostPhase) := withScript [⟨0x10, .afterSecond⟩] (setPhase p (at' .getPulse 500))
    fetch (u .rawCodeClear) = .microStep ∧ fetch (u .addressReturn) = .microStep ∧
    after (step (u .rawCodeReturn)) = some (setPhase .rawCodeReturn (inFrame 1 0 0)) := by decide

/-- An EDGE not written apart waits for the micro-step. -/
theorem test_step_back_to_back :
    let u := withScript (entries [0x10]) (setPhase .commandClear (at' .getPulse 500))
    fetch u = .microStep := by decide

theorem test_step_refuses :
    let s := withScript (entries [0x31, 0x20]) State.reset
    s.Live ∧ s.hostPhase = .idle ∧
    after (step s) =
      some { withScript (entries [0x20]) State.reset with refused := true, refusalReason := some .internalOp } ∧
    refusalOf (runSteps 2 s) = some (.afterRefusal (some .internalOp)) := by decide

theorem test_marked :
    let s : State := { State.reset with faulted := true, script := entries [0x20] }
    s.faulted = true ∧ faultOf (step s) = some (.afterFault none) := by decide

theorem test_ill_formed :
    let s : State := { State.reset with config := { timerPeriod := 0 }, script := entries [0x20] }
    s.config.timerPeriod = 0 ∧ refusalOf (step s) = some .illFormedConfig := by decide

/-- R12: the count at the edge of its range, under two widths that hold the period. -/
theorem test_timer_width :
    let s := withScript (entries [0x20]) (at' .getPulse 9999)
    s.count.toNat < s.config.timerPeriod ∧ s.config.timerPeriod ≤ 2 ^ s.config.timerWidth ∧
    s.config.timerPeriod ≤ 2 ^ 16 ∧
    (after (step (withTimerWidth 16 s))).map (fun t => (t.count.toNat, t.ovfPending)) = some (0, true) := by decide

theorem test_end_of_run :
    EndedWell State.reset ∧ State.reset.config.wellFormed = true ∧
    faultOf (step State.reset) = some .scriptExhausted := by decide

theorem test_first_word :
    after (step (State.reset.withFetchWord 8 0x10)) = some (at' .leadPulseStart 0) ∧
    after (step (State.reset.withFetchWord 8 0x42)) = some (setPhase .addressReturn State.reset) := by decide

/-! ## Witnesses for the statements over every step -/

/-- The 32nd bit sets `codeReady`; COMMAND's second micro-step clears it. -/
theorem test_ready_flag_moves :
    let s := withScript (entries [0x10]) (inFrame 31 1000 0)
    let u := setPhase .commandClear ready
    s.codeReady = false ∧ (after (step s)).map (·.codeReady) = some true ∧
    u.codeReady = true ∧ (after (step u)).map (·.codeReady) = some false := by decide

/-- SKIP_THIS_CODE on a completed frame leads into the state in which a further bit faults. -/
theorem test_discard :
    let s := withScript (entries [0x45]) ready
    ¬ Discarded s ∧ (after (step s)).map (fun t => decide (Discarded t)) = some true := by decide

/-- A repeat changes `isRepeat`, a validation changes `address`, a bit changes `rawCode`, an overflow changes `state`. -/
theorem test_writers :
    (after (step (withScript (entries [0x10]) (at' .leadSpaceStart 2250)))).map (·.isRepeat) = some true ∧
    (after (step (withScript (entries [0x42]) { ready with rawCode := 0xEF10FD02 }))).map (·.address) = some 0x02 ∧
    (after (step (withScript (entries [0x10]) (inFrame 4 1000 0)))).map (·.rawCode) = some 0x10 ∧
    (after (step (withScript (entries [0x30]) { ready with ovfPending := true }))).map (·.state) = some .start := by decide

theorem test_reset_frameInv : FrameInv State.reset := ⟨by decide, by decide, by decide, by decide⟩
theorem test_reset_codeBelowIndex : CodeBelowIndex State.reset := fun k _ => by simp [State.reset]
theorem test_reset_marksAgree : MarksAgree State.reset := by decide

/-- A state of a run that meets the three invariants and takes a step. -/
theorem test_step_keeps_inv_hypotheses :
    let s := withScript (entries [0x20]) ready
    FrameInv s ∧ CodeBelowIndex s ∧ MarksAgree s ∧ (after (step s)).isSome = true :=
  ⟨⟨by decide, by decide, by decide, by decide⟩, fun k h => BitVec.getLsbD_of_ge _ k h, by decide, by decide⟩

/-! ## Frames -/

theorem test_32_spaces_hypotheses :
    let s := at' .getPulse 0
    let bits : List (Nat × Nat) := List.replicate 32 (560, 1650)
    s.Live ∧ s.codeReady = false ∧ s.bitIndex = 0 ∧ s.rawCode = 0 ∧ s.running = true ∧ s.count = 0 ∧ bits.length = 32 ∧
    ∀ p ∈ bits, p.1 < s.config.timerPeriod ∧ p.2 < s.config.timerPeriod ∧ s.config.lowMin ≤ p.2 ∧
      p.2 ≤ s.config.highMax := by decide

theorem test_frame_hypotheses :
    State.reset.Live ∧ State.reset.config = Config.default ∧ State.reset.state = .start ∧
    State.reset.codeReady = false := by decide

/-! ## The encoding of `state` (R21, D14) -/

theorem test_fsm_code : ∀ c : BitVec 2, (FsmState.ofCode c).code = c := by decide

/-! ## Script text (R84) -/

theorem test_parse :
    parseScript "EDGE 0 ; start\nCODE_RECEIVED -> 1\n\nBYTE 0x5A\n".toList =
      some [⟨some (.op (.edge false)), none⟩, ⟨some (.op .codeReceived), some 1⟩, ⟨none, none⟩,
        ⟨some (.pseudo (.byte 0x5A)), none⟩, ⟨none, none⟩] := by decide
/-- A carriage return is a blank, and a value after an operation that returns nothing is ignored (log entry 18). -/
theorem test_parse_choices :
    parseScript "TICK\r".toList = some [⟨some (.op .tick), none⟩] ∧
    annotations [⟨some (.op .skipThisCode), some 1⟩, ⟨some (.op .codeReceived), some 0⟩] = [some 0] := by decide
theorem test_parse_rejects_update : parseScript "UPDATE".toList = none := by decide
theorem test_assemble : assemble [⟨some (.pseudo (.ticks 2)), none⟩, ⟨some (.op .ovf), none⟩] = [0x20, 0x20, 0x30] := by
  decide

end Sys2Proof.Tests
end

section
/-! PROOFS of the scope statements (spec/00_scope.md): a step's equations, the refusal of an ill-formed configuration, the
starting state, and the parameters no step reads. -/

namespace Sys2Proof.Machine

/-! ## The equations of a step: one per case of `fetch` -/

/-- With the script exhausted a step ends the run or takes the micro-step in progress (R160, R243). -/
theorem step_of_script_nil {s : State} (hs : s.script = []) :
    step s = if s.hostPhase = .idle then endOfRun s else hostMicroStep s := by
  simp only [step, fetch, hs]
  by_cases hp : s.hostPhase = .idle <;> simp [hp]

/-- A word is taken by the next step: the host is idle, or the script places an EDGE, TICK or OVF before the next
micro-step of the operation in progress (R84, R160). -/
abbrev WordDue (x : Entry) (h : HostPhase) : Prop :=
  h = .idle ∨ (x.place.due h = true ∧ wordInterleaves x.word = true)

theorem step_of_decode_ok {s : State} {x : Entry} {rest : List Entry} {i : Instr} (hs : s.script = x :: rest)
    (hx : WordDue x s.hostPhase) (hd : decode x.word = .ok i) : step s = exec i { s with script := rest } := by
  simp only [step, fetch, hs, if_pos hx, presentWord, hd]

theorem step_of_decode_error {s : State} {x : Entry} {rest : List Entry} {r : WordRefusal} (hs : s.script = x :: rest)
    (hx : WordDue x s.hostPhase) (hd : decode x.word = .error r) :
    step s = refuseStep r { s with script := rest } := by
  simp only [step, fetch, hs, if_pos hx, presentWord, hd]

/-- A word that is not due waits for the next micro-step of the operation in progress (R84, R160). -/
theorem step_of_not_wordDue {s : State} {x : Entry} {rest : List Entry} (hs : s.script = x :: rest)
    (hx : ¬ WordDue x s.hostPhase) : step s = hostMicroStep s := by
  simp only [step, fetch, hs, if_neg hx]

theorem wordInterleaves_of_decode {w : Byte} {i : Instr} (hd : decode w = .ok i) :
    wordInterleaves w = interleaves i := by
  simp only [wordInterleaves, hd]

/-- Settles O38: the two places that come before the next micro-step are due there, so the equation of a due word
applies. -/
theorem stepRunsDecodedOperation : Obligations.StepRunsDecodedOperation := by
  intro s w a rest i hs hd h
  refine step_of_decode_ok hs ?_ hd
  obtain hidle | ⟨hplace, hop⟩ := h
  · exact .inl hidle
  · have hi : wordInterleaves w = true := by
      rw [wordInterleaves_of_decode hd]
      obtain ⟨L, rfl⟩ | rfl | rfl := hop <;> rfl
    obtain rfl | ⟨rfl, hphase⟩ := hplace
    · by_cases hidle : s.hostPhase = .idle
      · exact .inl hidle
      · exact .inr ⟨(due_afterFirst _).mpr hidle, hi⟩
    · exact .inr ⟨(due_afterSecond _).mpr hphase, hi⟩

/-! ## An ill-formed configuration (R12, R14, R203) -/

/-- The negated conditions of R14, and R12's. -/
theorem wellFormed_eq_false_iff (c : Config) : c.wellFormed = false ↔
    c.leadPulseMax < c.leadPulseLo ∨ c.leadSpaceMin < c.repeatedMin ∨ c.leadSpaceMax < c.leadSpaceMin ∨
      c.lowMax < c.lowMin ∨ c.highMax < c.lowMax ∨ c.timerPeriod = 0 ∨ 2 ^ c.timerWidth < c.timerPeriod := by
  simp only [Config.wellFormed, Config.timerFits, Bool.and_eq_false_iff, decide_eq_false_iff_not, not_le,
    Nat.lt_one_iff, or_assoc]

theorem whenIdle_illFormed {s : State} (k : State → Result) (h : s.config.wellFormed = false) :
    whenIdle s k = .refused .illFormedConfig :=
  whenLive_illFormed _ h

theorem exec_illFormed {s : State} (i : Instr) (h : s.config.wellFormed = false) :
    exec i s = .refused .illFormedConfig := by
  cases i with
  | edge | tick | ovf | update => rw [exec]; exact whenLive_illFormed _ h
  | codeReceived | rawCode | address | command | newKeyPressed | skipThisCode => rw [exec]; exact whenIdle_illFormed _ h

theorem step_illFormed {s : State} (h : s.config.wellFormed = false) : step s = .refused .illFormedConfig := by
  cases hs : s.script with
  | nil =>
    rw [step_of_script_nil hs]
    split <;> exact whenLive_illFormed _ h
  | cons x rest =>
    by_cases hx : WordDue x s.hostPhase
    · cases hd : decode x.word with
      | ok i => rw [step_of_decode_ok hs hx hd]; exact exec_illFormed i h
      | error r => rw [step_of_decode_error hs hx hd]; exact whenLive_illFormed _ h
    · rw [step_of_not_wordDue hs hx]; exact whenLive_illFormed _ h

/-- Settles O41: each listed condition makes the configuration ill formed, and every guard asks for that first. -/
theorem illFormedConfigIsRefused : Obligations.IllFormedConfigIsRefused := by
  intro s h
  have hw : s.config.wellFormed = false := (wellFormed_eq_false_iff _).mpr h
  exact ⟨step_illFormed hw, fun i => exec_illFormed i hw⟩

/-! ## The starting state (R36, R37, R232) -/

theorem timerPeriod_pos_of_wellFormed {c : Config} (h : c.wellFormed = true) : 0 < c.timerPeriod := by
  by_contra h0
  have : c.wellFormed = false := (wellFormed_eq_false_iff c).mpr (by omega)
  simp [h] at this

theorem started_frameInv {c : Config} (script : List Entry) (h : c.wellFormed = true) :
    FrameInv (started c script) where
  paused_start _ := rfl
  bitIndex_le := by simp [started, State.reset]
  ready_full hs := by cases hs
  count_lt := by simpa [started] using timerPeriod_pos_of_wellFormed h

theorem started_codeBelowIndex (c : Config) (script : List Entry) : CodeBelowIndex (started c script) :=
  fun _ _ => BitVec.getLsbD_zero

theorem started_marksAgree (c : Config) (script : List Entry) : MarksAgree (started c script) :=
  ⟨rfl, rfl, by simp [started, State.reset]⟩

/-- Settles O56: every register of the starting state is the zero of reset, whatever the configuration and script. -/
theorem startMeetsInvariants : Obligations.StartMeetsInvariants :=
  ⟨by decide, fun c script h =>
    ⟨⟨h, rfl, rfl⟩, started_frameInv script h, started_codeBelowIndex c script, started_marksAgree c script⟩⟩

/-! ## Parameters no step reads (R6, R10, R12)

Both changes of a parameter are one map: apply `C` to the configuration and keep the count in the new width. The map
commutes with every update of the state, and with the guards and a step where it keeps what they read. -/

/-- The state under another configuration, its count in a register of the new width. -/
def mapConfig (C : Config → Config) (s : State) : State :=
  { s with config := C s.config, count := s.count.setWidth (C s.config).timerWidth }

section
variable (C : Config → Config) (s : State)

@[simp] theorem mapConfig_config : (mapConfig C s).config = C s.config := rfl
@[simp] theorem mapConfig_state : (mapConfig C s).state = s.state := rfl
@[simp] theorem mapConfig_bitIndex : (mapConfig C s).bitIndex = s.bitIndex := rfl
@[simp] theorem mapConfig_codeReady : (mapConfig C s).codeReady = s.codeReady := rfl
@[simp] theorem mapConfig_ovfPending : (mapConfig C s).ovfPending = s.ovfPending := rfl
@[simp] theorem mapConfig_hostPhase : (mapConfig C s).hostPhase = s.hostPhase := rfl
@[simp] theorem mapConfig_faulted : (mapConfig C s).faulted = s.faulted := rfl
@[simp] theorem mapConfig_refused : (mapConfig C s).refused = s.refused := rfl

end

/-- The change of configuration that `withUnread` makes. -/
def setUnread (leadPulseMin tickUs : Nat) (c : Config) : Config :=
  { c with leadPulseMin := leadPulseMin, tickUs := tickUs }

/-- The change of configuration that `withTimerWidth` makes. -/
def setTimerWidth (w : Nat) (c : Config) : Config := { c with timerWidth := w }

theorem withUnread_eq_mapConfig (a b : Nat) : withUnread a b = mapConfig (setUnread a b) := by
  funext s
  have hcount : s.count.setWidth (setUnread a b s.config).timerWidth = s.count := BitVec.setWidth_eq _
  rw [mapConfig, hcount]
  rfl

theorem withTimerWidth_eq_mapConfig (w : Nat) : withTimerWidth w = mapConfig (setTimerWidth w) := rfl

/-- `C` keeps every parameter that the handlers and the validation step read. -/
structure KeepsRead (C : Config → Config) : Prop where
  leadPulseOk (c : Config) : leadPulseOk (C c) = leadPulseOk c
  leadSpaceOk (c : Config) : leadSpaceOk (C c) = leadSpaceOk c
  isRepeatSpace (c : Config) : isRepeatSpace (C c) = isRepeatSpace c
  dataBitOk (c : Config) : dataBitOk (C c) = dataBitOk c
  classify (c : Config) : classify (C c) = classify c
  timerPeriod (c : Config) : (C c).timerPeriod = c.timerPeriod
  updateResetUnconditional (c : Config) : (C c).updateResetUnconditional = c.updateResetUnconditional

theorem keepsRead_setUnread (a b : Nat) : KeepsRead (setUnread a b) := by constructor <;> intro <;> rfl

theorem keepsRead_setTimerWidth (w : Nat) : KeepsRead (setTimerWidth w) := by constructor <;> intro <;> rfl

/-- In the state, the change keeps the verdict on the configuration, the number the count holds, and a tick of it. -/
structure KeepsCount (C : Config → Config) (s : State) : Prop where
  wellFormed : (C s.config).wellFormed = s.config.wellFormed
  toNat : (s.count.setWidth (C s.config).timerWidth).toNat = s.count.toNat
  tick : s.count.toNat ≠ s.config.timerPeriod - 1 →
    (s.count + 1).setWidth (C s.config).timerWidth = s.count.setWidth (C s.config).timerWidth + 1

theorem keepsCount_setUnread (a b : Nat) (s : State) : KeepsCount (setUnread a b) s where
  wellFormed := rfl
  toNat := congrArg BitVec.toNat (BitVec.setWidth_eq s.count)
  tick _ := (BitVec.setWidth_eq (s.count + 1)).trans (congrArg (· + 1) (BitVec.setWidth_eq s.count).symm)

/-- A number below the period, counted one on within it, is the same number in both widths. -/
theorem setWidth_add_one {v w n : Nat} {x : BitVec v} (hx : x.toNat + 1 < n) (hv : n ≤ 2 ^ v) (hw : n ≤ 2 ^ w) :
    (x + 1).setWidth w = x.setWidth w + 1 := by
  have h1v : (1 : BitVec v).toNat = 1 := Nat.mod_eq_of_lt (a := 1) (by omega)
  have h1w : (1 : BitVec w).toNat = 1 := Nat.mod_eq_of_lt (a := 1) (by omega)
  apply BitVec.eq_of_toNat_eq
  rw [BitVec.toNat_setWidth, BitVec.toNat_add, BitVec.toNat_add, BitVec.toNat_setWidth, h1v, h1w,
    Nat.mod_eq_of_lt (a := x.toNat + 1) (by omega), Nat.mod_eq_of_lt (a := x.toNat) (by omega)]

theorem keepsCount_setTimerWidth {w : Nat} {s : State} (hc : s.count.toNat < s.config.timerPeriod)
    (hv : s.config.timerPeriod ≤ 2 ^ s.config.timerWidth) (hw : s.config.timerPeriod ≤ 2 ^ w) :
    KeepsCount (setTimerWidth w) s where
  wellFormed := by
    have hfits : (setTimerWidth w s.config).timerFits = s.config.timerFits := by
      simp [setTimerWidth, Config.timerFits, hv, hw]
    exact congrArg (_ && ·) hfits
  toNat := by
    rw [BitVec.toNat_setWidth]
    exact Nat.mod_eq_of_lt (lt_of_lt_of_le hc hw)
  tick hne := setWidth_add_one (n := s.config.timerPeriod) (by omega) hv hw

/-! ### The state's updates commute with the map -/

theorem timerResetCount_mapConfig (C : Config → Config) (s : State) :
    timerResetCount (mapConfig C s) = mapConfig C (timerResetCount s) := by
  simp [mapConfig, timerResetCount]

theorem completeIfFull_mapConfig (C : Config → Config) (s : State) :
    completeIfFull (mapConfig C s) = mapConfig C (completeIfFull s) :=
  (apply_ite (mapConfig C) (s.bitIndex = 32) (flagComplete s) s).symm

section
variable {C : Config → Config} (hC : KeepsRead C) (s : State)
include hC

theorem updateStep_mapConfig : updateStep (mapConfig C s) = mapConfig C (updateStep s) := by
  simp only [updateStep, mapConfig_codeReady, mapConfig_config, hC.updateResetUnconditional]
  split
  · rfl
  · split <;> rfl

theorem edgeLeadPulse_mapConfig (e : Nat) : edgeLeadPulse e (mapConfig C s) = mapConfig C (edgeLeadPulse e s) := by
  simp only [edgeLeadPulse, mapConfig_config, hC.leadPulseOk]
  split <;> rfl

theorem edgeLeadSpace_mapConfig (e : Nat) : edgeLeadSpace e (mapConfig C s) = mapConfig C (edgeLeadSpace e s) := by
  simp only [edgeLeadSpace, mapConfig_config, hC.leadSpaceOk, hC.isRepeatSpace]
  split
  · split <;> rfl
  · rfl

theorem edgeGetPulse_mapConfig (e : Nat) (level : Bool) :
    edgeGetPulse e level (mapConfig C s) = (edgeGetPulse e level s).map (mapConfig C) := by
  simp only [edgeGetPulse, mapConfig_config, mapConfig_bitIndex, hC.dataBitOk, hC.classify]
  split
  · rfl
  · split
    · split
      · rfl
      · exact congrArg Except.ok (completeIfFull_mapConfig C (accumulate (classify s.config e) s))
    · rfl

theorem edgeCase_mapConfig (e : Nat) (level : Bool) :
    edgeCase e level (mapConfig C s) = (edgeCase e level s).map (mapConfig C) := by
  unfold edgeCase
  rw [mapConfig_state]
  cases s.state with
  | start => rfl
  | leadPulseStart => exact congrArg Except.ok (edgeLeadPulse_mapConfig hC s e)
  | leadSpaceStart => exact congrArg Except.ok (edgeLeadSpace_mapConfig hC s e)
  | getPulse => exact edgeGetPulse_mapConfig hC s e level

end

section
variable {C : Config → Config} {s : State} (hC : KeepsRead C) (hs : KeepsCount C s)

include hC hs in
theorem acceptedEdge_mapConfig (level : Bool) :
    acceptedEdge level (mapConfig C s) = mapConfig C (acceptedEdge level s) := by
  have he : timerReadCount (mapConfig C s) = timerReadCount s := hs.toNat
  unfold acceptedEdge
  rw [he, timerResetCount_mapConfig, edgeCase_mapConfig hC]
  cases edgeCase (timerReadCount s) level (timerResetCount s) <;> rfl

include hC hs in
theorem countTick_mapConfig : countTick (mapConfig C s) = mapConfig C (countTick s) := by
  have hn : (mapConfig C s).count.toNat = s.count.toNat := hs.toNat
  rcases countTick_cases s with ⟨hwrap, h⟩ | ⟨hwrap, h⟩
  · rw [h, countTick, if_pos (by rw [hn, mapConfig_config, hC.timerPeriod]; exact hwrap)]
    simp [mapConfig]
  · rw [h, countTick, if_neg (by rw [hn, mapConfig_config, hC.timerPeriod]; exact hwrap)]
    exact congrArg (fun n => { mapConfig C s with count := n }) (hs.tick hwrap).symm

include hs in
/-- The guard's verdict is kept, so a guarded operation commutes with the map where its body does. -/
theorem whenLive_mapConfig {k : State → Result} (hk : k (mapConfig C s) = mapNext (mapConfig C) (k s)) :
    whenLive (mapConfig C s) k = mapNext (mapConfig C) (whenLive s k) := by
  rw [whenLive, whenLive, mapConfig_config, hs.wellFormed, mapConfig_faulted, mapConfig_refused]
  split
  · split
    · rfl
    · split
      · rfl
      · exact hk
  · rfl

include hs in
theorem whenIdle_mapConfig {k : State → Result} (hk : k (mapConfig C s) = mapNext (mapConfig C) (k s)) :
    whenIdle (mapConfig C s) k = mapNext (mapConfig C) (whenIdle s k) := by
  refine whenLive_mapConfig hs ?_
  rw [mapConfig_hostPhase]
  split
  · exact hk
  · rfl

include hs in
theorem whenLive_next_mapConfig {f : State → State} (hf : f (mapConfig C s) = mapConfig C (f s)) :
    whenLive (mapConfig C s) (fun t => .next (f t)) = mapNext (mapConfig C) (whenLive s fun t => .next (f t)) :=
  whenLive_mapConfig hs (congrArg Host.Outcome.next hf)

include hs in
theorem whenIdle_next_mapConfig {f : State → State} (hf : f (mapConfig C s) = mapConfig C (f s)) :
    whenIdle (mapConfig C s) (fun t => .next (f t)) = mapNext (mapConfig C) (whenIdle s fun t => .next (f t)) :=
  whenIdle_mapConfig hs (congrArg Host.Outcome.next hf)

include hC hs in
theorem exec_mapConfig (i : Instr) : exec i (mapConfig C s) = mapNext (mapConfig C) (exec i s) := by
  have hu : updateStep (mapConfig C s) = mapConfig C (updateStep s) := updateStep_mapConfig hC s
  cases i with
  | edge level =>
    rw [exec, execEdge]
    refine whenLive_next_mapConfig hs ?_
    rw [acceptedEdge_mapConfig hC hs]
    exact (apply_ite (mapConfig C) (s.codeReady = true) s (acceptedEdge level s)).symm
  | tick =>
    rw [exec, execTick]
    refine whenLive_next_mapConfig hs ?_
    rw [countTick_mapConfig hC hs]
    exact (apply_ite (mapConfig C) (s.running = true) (countTick s) s).symm
  | ovf =>
    rw [exec, execOvf]
    refine whenLive_mapConfig hs ?_
    rw [mapConfig_ovfPending]
    split <;> rfl
  | update => rw [exec]; exact whenLive_next_mapConfig hs hu
  | rawCode => rw [exec, execRawCode]; exact whenIdle_next_mapConfig hs (congrArg (setPhase .rawCodeClear) hu)
  | address => rw [exec, execAddress]; exact whenIdle_next_mapConfig hs (congrArg (setPhase .addressReturn) hu)
  | command => rw [exec, execCommand]; exact whenIdle_next_mapConfig hs (congrArg (setPhase .commandClear) hu)
  | codeReceived => rw [exec, execCodeReceived]; exact whenIdle_next_mapConfig hs rfl
  | newKeyPressed => rw [exec, execNewKeyPressed]; exact whenIdle_next_mapConfig hs rfl
  | skipThisCode => rw [exec, execSkipThisCode]; exact whenIdle_next_mapConfig hs rfl

theorem microEffect_mapConfig (C : Config → Config) (s : State) :
    microEffect (mapConfig C s) = mapConfig C (microEffect s) := by
  unfold microEffect
  rw [mapConfig_hostPhase]
  cases s.hostPhase <;> rfl

include hs in
theorem hostMicroStep_mapConfig : hostMicroStep (mapConfig C s) = mapNext (mapConfig C) (hostMicroStep s) :=
  whenLive_next_mapConfig hs (microEffect_mapConfig C s)

include hC hs in
theorem step_mapConfig : step (mapConfig C s) = mapNext (mapConfig C) (step s) := by
  cases hscript : s.script with
  | nil =>
    rw [step_of_script_nil hscript, step_of_script_nil (s := mapConfig C s) hscript, mapConfig_hostPhase]
    split
    · exact whenLive_mapConfig hs rfl
    · exact hostMicroStep_mapConfig hs
  | cons x rest =>
    have hrest : KeepsCount C { s with script := rest } := ⟨hs.wellFormed, hs.toNat, hs.tick⟩
    by_cases hx : WordDue x s.hostPhase
    · cases hd : decode x.word with
      | ok i =>
        rw [step_of_decode_ok hscript hx hd, step_of_decode_ok (s := mapConfig C s) hscript hx hd]
        exact exec_mapConfig hC hrest i
      | error r =>
        rw [step_of_decode_error hscript hx hd, step_of_decode_error (s := mapConfig C s) hscript hx hd]
        exact whenLive_mapConfig hrest rfl
    · rw [step_of_not_wordDue hscript hx, step_of_not_wordDue (s := mapConfig C s) hscript hx]
      exact hostMicroStep_mapConfig hs

end

/-- Settles O50: both changes of a parameter are a `mapConfig` that keeps what a step reads, so a step commutes with
them. -/
theorem unreadParametersDoNotMatter : Obligations.UnreadParametersDoNotMatter := by
  refine ⟨fun s a b => ?_, fun s w hc hv hw => ?_⟩
  · rw [withUnread_eq_mapConfig]
    exact step_mapConfig (keepsRead_setUnread a b) (keepsCount_setUnread a b s)
  · rw [withTimerWidth_eq_mapConfig]
    exact step_mapConfig (keepsRead_setTimerWidth w) (keepsCount_setTimerWidth hc hv hw)

end Sys2Proof.Machine
end

section
/-! PROOFS of the state statements (spec/10_state.md): what one step can do to the registers, said once as `EdgeEffect`
and `StepEffect`, and from it the invariants of R37 and who writes each register. -/

namespace Sys2Proof.Machine

/-! ## States with an outcome mark (R33, R204) -/

/-- Settles O40: a step, an operation and a well-ended run all need both marks clear. -/
theorem markedStateTakesNoStep : Obligations.MarkedStateTakesNoStep := by
  intro s h
  have hmark : ¬ (s.faulted = false ∧ s.refused = false) := by
    rintro ⟨hf, hr⟩
    simp [hf, hr] at h
  exact ⟨fun t ht => hmark (step_next ht).1.2, fun i t ht => hmark (exec_next ht).1.2, fun ⟨_, _, he⟩ => hmark he⟩

/-! ## What an accepted edge does -/

/-- The cases of `acceptedEdge_cases` by name, the 32nd bit apart from the others; of the guards, only the facts about
registers. -/
inductive EdgeEffect (s : State) : State → Prop
  | leadPulseBegins (hs : s.state = .start) : EdgeEffect s (edgeStart (timerResetCount s))
  | leadSpaceBegins (hs : s.state = .leadPulseStart) :
    EdgeEffect s { timerResetCount s with state := .leadSpaceStart }
  | repeated (hs : s.state = .leadSpaceStart) : EdgeEffect s { flagRepeat (timerResetCount s) with state := .start }
  | frameBegins (hs : s.state = .leadSpaceStart) : EdgeEffect s (enterGetPulse (timerResetCount s))
  | violated : EdgeEffect s (violation (timerResetCount s))
  | notEvaluated : EdgeEffect s (timerResetCount s)
  | overrun (r : FaultRecord) : EdgeEffect s (raiseFault r s)
  | bitCounted (b : Bool) (hs : s.state = .getPulse) (hb : s.bitIndex < 32) (hn : s.bitIndex + 1 ≠ 32) :
    EdgeEffect s (accumulate b (timerResetCount s))
  | frameCompleted (b : Bool) (hs : s.state = .getPulse) (hb : s.bitIndex < 32) (hn : s.bitIndex + 1 = 32) :
    EdgeEffect s (flagComplete (accumulate b (timerResetCount s)))

theorem acceptedEdge_effect (L : Bool) (s : State) : EdgeEffect s (acceptedEdge L s) := by
  obtain ⟨hs, he⟩ | ⟨hs, -, he⟩ | ⟨hs, -, -, he⟩ | ⟨hs, -, -, he⟩ | ⟨-, he⟩ | ⟨-, -, he⟩ | ⟨-, -, -, -, he⟩ |
    ⟨hs, -, -, hb, he⟩ := acceptedEdge_cases L s <;> rw [he]
  · exact .leadPulseBegins hs
  · exact .leadSpaceBegins hs
  · exact .repeated hs
  · exact .frameBegins hs
  · exact .violated
  · exact .notEvaluated
  · exact .overrun _
  · by_cases hn : s.bitIndex + 1 = 32
    · rw [completeIfFull, accumulate_bitIndex, timerResetCount_bitIndex, if_pos hn]; exact .frameCompleted _ hs hb hn
    · rw [completeIfFull, accumulate_bitIndex, timerResetCount_bitIndex, if_neg hn]; exact .bitCounted _ hs hb hn

/-- Counting a bit loses none (R109). -/
theorem getLsbD_accumulate {s : State} (b : Bool) {k : Nat} (h : s.rawCode.getLsbD k = true) :
    (accumulate b s).rawCode.getLsbD k = true := by
  rw [accumulate_rawCode, getLsbD_orBitAt, h, Bool.true_or]

namespace EdgeEffect

variable {s t : State}

theorem address_eq (h : EdgeEffect s t) : t.address = s.address := by cases h <;> rfl
theorem command_eq (h : EdgeEffect s t) : t.command = s.command := by cases h <;> rfl
theorem ovfPending_eq (h : EdgeEffect s t) : t.ovfPending = s.ovfPending := by cases h <;> rfl

/-- The flags are kept, or set together by a repeat (R105) or by the 32nd bit (R110). -/
theorem flags_cases (h : EdgeEffect s t) :
    (t.codeReady = s.codeReady ∧ t.isRepeat = s.isRepeat) ∨
    (t.codeReady = true ∧
      ((t.isRepeat = true ∧ s.state = .leadSpaceStart ∧ t.state = .start) ∨
        (t.isRepeat = false ∧ s.state = .getPulse ∧ t.bitIndex = 32))) := by
  cases h with
  | repeated hs => exact .inr ⟨rfl, .inl ⟨rfl, hs, rfl⟩⟩
  | frameCompleted b hs hb hn => exact .inr ⟨rfl, .inr ⟨rfl, hs, hn⟩⟩
  | leadPulseBegins | leadSpaceBegins | frameBegins | violated | notEvaluated | overrun | bitCounted =>
    exact .inl ⟨rfl, rfl⟩

/-- The accumulator is kept, cleared on entry to GET_PULSE, or gains one bit (R105, R109). -/
theorem accumulator_cases (h : EdgeEffect s t) :
    (t.rawCode = s.rawCode ∧ t.bitIndex = s.bitIndex) ∨
    (s.state = .leadSpaceStart ∧ t.state = .getPulse ∧ t.rawCode = 0 ∧ t.bitIndex = 0) ∨
    (s.state = .getPulse ∧ t.bitIndex = s.bitIndex + 1 ∧ s.bitIndex < 32 ∧
      ∀ k, s.rawCode.getLsbD k = true → t.rawCode.getLsbD k = true) := by
  cases h with
  | frameBegins hs => exact .inr (.inl ⟨hs, rfl, rfl, rfl⟩)
  | bitCounted b hs hb hn => exact .inr (.inr ⟨hs, rfl, hb, fun _ => getLsbD_accumulate (s := timerResetCount s) b⟩)
  | frameCompleted b hs hb hn =>
    exact .inr (.inr ⟨hs, rfl, hb, fun _ => getLsbD_accumulate (s := timerResetCount s) b⟩)
  | leadPulseBegins | leadSpaceBegins | repeated | violated | notEvaluated | overrun => exact .inl ⟨rfl, rfl⟩

end EdgeEffect

/-! ## What a step does -/

/-- What a step that answers a next state does, grouped by the registers it may write, with what presents it. -/
inductive StepEffect (s : State) : State → Prop
  | edge {t : State} (L : Bool) (rest : List Entry) (hp : Presents (.edge L) s) (hr : s.codeReady = false)
      (he : EdgeEffect { s with script := rest } t) : StepEffect s t
  | tick (rest : List Entry) (hp : Presents .tick s) (hr : s.running = true) :
    StepEffect s (countTick { s with script := rest })
  | ovf (rest : List Entry) (hp : Presents .ovf s) : StepEffect s (overflowHandler { s with script := rest })
  | update (rest : List Entry) (p : HostPhase) (hp : PresentsUpdate s) :
    StepEffect s (setPhase p (updateStep { s with script := rest }))
  | clear (rest : List Entry) (p : HostPhase)
      (hp : Presents .skipThisCode s ∨
        (fetch s = .microStep ∧ (s.hostPhase = .rawCodeClear ∨ s.hostPhase = .commandClear))) :
    StepEffect s (setPhase p (clearReady { s with script := rest }))
  /-- A value returned. -/
  | answer (rest : List Entry) (p : HostPhase) (v : HostValue) :
    StepEffect s (setPhase p (hostReturn v { s with script := rest }))
  /-- A refused word. -/
  | refuse (rest : List Entry) (r : WordRefusal) : StepEffect s (refuseWord r { s with script := rest })
  /-- An edge dropped while a code is ready (R101), or a tick of a paused timer (R141). -/
  | skip (rest : List Entry) : StepEffect s { s with script := rest }

theorem exec_effect {i : Instr} {s t : State} {rest : List Entry} (hf : fetch s = .op i { s with script := rest })
    (hw : i.wellFormed = true) (h : exec i { s with script := rest } = .next t) : StepEffect s t := by
  have hp : Presents i s := ⟨_, hf⟩
  cases i with
  | edge L =>
    obtain ⟨-, rfl⟩ := execEdge_next h
    split
    · exact .skip rest
    · rename_i hr
      exact .edge L rest hp (by simpa using hr) (acceptedEdge_effect L _)
  | tick =>
    obtain ⟨-, rfl⟩ := execTick_next h
    split
    · exact .tick rest hp ‹_›
    · exact .skip rest
  | ovf => obtain ⟨-, -, rfl⟩ := execOvf_next h; exact .ovf rest hp
  | update => cases hw
  | codeReceived => obtain ⟨-, -, rfl⟩ := execCodeReceived_next h; exact .answer rest s.hostPhase _
  | rawCode => obtain ⟨-, -, rfl⟩ := execRawCode_next h; exact .update rest _ (.inl hp)
  | address => obtain ⟨-, -, rfl⟩ := execAddress_next h; exact .update rest _ (.inr (.inl hp))
  | command => obtain ⟨-, -, rfl⟩ := execCommand_next h; exact .update rest _ (.inr (.inr hp))
  | newKeyPressed => obtain ⟨-, -, rfl⟩ := execNewKeyPressed_next h; exact .answer rest s.hostPhase _
  | skipThisCode => obtain ⟨-, -, rfl⟩ := execSkipThisCode_next h; exact .clear rest s.hostPhase (.inl hp)

theorem microEffect_effect {s : State} (hf : fetch s = .microStep) : StepEffect s (microEffect s) := by
  obtain ⟨hp, he⟩ | ⟨hp, he⟩ | ⟨v, he, -⟩ := microEffect_cases (fetch_microStep hf) <;> rw [he]
  · exact .clear s.script _ (.inr ⟨hf, .inl hp⟩)
  · exact .clear s.script _ (.inr ⟨hf, .inr hp⟩)
  · exact .answer s.script _ v

theorem step_effect {s t : State} (h : step s = .next t) : StepEffect s t := by
  obtain ⟨-, ⟨i, rest, hf, he, hw⟩ | ⟨r, rest, -, rfl⟩ | ⟨hf, rfl⟩⟩ := step_next h
  · exact exec_effect hf hw he
  · exact .refuse rest r
  · exact microEffect_effect hf

/-! ## The invariants of R37 -/

section
variable {s : State} (h : FrameInv s)
include h

theorem FrameInv.withScript (rest : List Entry) : FrameInv { s with script := rest } :=
  ⟨h.paused_start, h.bitIndex_le, h.ready_full, h.count_lt⟩

theorem FrameInv.setPhase (p : HostPhase) : FrameInv (setPhase p s) :=
  ⟨h.paused_start, h.bitIndex_le, h.ready_full, h.count_lt⟩

theorem FrameInv.timerResetCount : FrameInv (timerResetCount s) where
  paused_start := h.paused_start
  bitIndex_le := h.bitIndex_le
  ready_full := h.ready_full
  count_lt := Nat.zero_lt_of_lt h.count_lt

/-- START with the timer paused meets I1 and I3 whatever the flags are. -/
theorem FrameInv.returnToStart : FrameInv (returnToStart s) where
  paused_start _ := rfl
  bitIndex_le := h.bitIndex_le
  ready_full hs := by cases hs
  count_lt := h.count_lt

theorem FrameInv.clearReady : FrameInv (clearReady s) where
  paused_start := h.paused_start
  bitIndex_le := h.bitIndex_le
  ready_full _ hr := by cases hr
  count_lt := h.count_lt

theorem FrameInv.overflowHandler : FrameInv (overflowHandler s) :=
  FrameInv.returnToStart (s := { s with ovfPending := false })
    ⟨h.paused_start, h.bitIndex_le, h.ready_full, h.count_lt⟩

theorem FrameInv.updateStep : FrameInv (updateStep s) := by
  obtain ⟨-, he⟩ | ⟨-, -, he⟩ | ⟨-, -, he⟩ := updateStep_cases s <;> rw [he]
  · exact FrameInv.returnToStart (s := validateFields s)
      ⟨h.paused_start, h.bitIndex_le, h.ready_full, h.count_lt⟩
  · exact h.returnToStart
  · exact h

/-- A tick wraps at the period, so that a count which is not the last stays below it (R141). -/
theorem FrameInv.countTick (hl : s.Live) : FrameInv (countTick s) := by
  obtain ⟨-, he⟩ | ⟨hc, he⟩ := countTick_cases s <;> rw [he]
  · have hz := h.timerResetCount
    exact ⟨hz.paused_start, hz.bitIndex_le, hz.ready_full, hz.count_lt⟩
  · refine ⟨h.paused_start, h.bitIndex_le, h.ready_full, ?_⟩
    have hlt : s.count.toNat + 1 < s.config.timerPeriod := by have := h.count_lt; omega
    exact (toNat_count_add_one hl hlt).trans_lt hlt

theorem FrameInv.running_of_ne_start (hs : s.state ≠ .start) : s.running = true := by
  by_contra hr
  exact hs (h.paused_start (by simpa using hr))

/-- I1 holds where the timer runs on, I3 because the edge was accepted with no code ready and only the 32nd bit sets it in
GET_PULSE. -/
theorem FrameInv.edgeEffect {t : State} (hr : s.codeReady = false) (he : EdgeEffect s t) : FrameInv t := by
  have hz := h.timerResetCount
  cases he with
  | leadPulseBegins hs => exact ⟨nofun, hz.bitIndex_le, nofun, hz.count_lt⟩
  | leadSpaceBegins hs =>
    refine ⟨fun hp => ?_, hz.bitIndex_le, nofun, hz.count_lt⟩
    simp [h.running_of_ne_start, hs] at hp
  | repeated hs => exact ⟨fun _ => rfl, hz.bitIndex_le, nofun, hz.count_lt⟩
  | frameBegins hs =>
    refine ⟨fun hp => ?_, by simp, fun _ hc => ?_, hz.count_lt⟩
    · simp [h.running_of_ne_start, hs] at hp
    · simp [hr] at hc
  | violated => exact hz.returnToStart
  | notEvaluated => exact hz
  | overrun r => exact ⟨h.paused_start, h.bitIndex_le, h.ready_full, h.count_lt⟩
  | bitCounted b hs hb hn =>
    have hle : s.bitIndex + 1 ≤ 32 := by bv_omega
    refine ⟨h.paused_start, hle, fun _ hc => ?_, hz.count_lt⟩
    simp [hr] at hc
  | frameCompleted b hs hb hn => exact ⟨h.paused_start, BitVec.le_of_eq hn, fun _ _ => ⟨hn, rfl⟩, hz.count_lt⟩

end

/-- Settles O51: each effect of a step keeps the invariants. -/
theorem stepKeepsFrameInv : Obligations.StepKeepsFrameInv := by
  intro s t h hstep
  have hl : s.Live := (step_next hstep).1
  cases step_effect hstep with
  | edge L rest hp hr he => exact (h.withScript rest).edgeEffect hr he
  | tick rest hp hr => exact (h.withScript rest).countTick hl
  | ovf rest hp => exact (h.withScript rest).overflowHandler
  | update rest p hp => exact (h.withScript rest).updateStep.setPhase p
  | clear rest p hp => exact (h.withScript rest).clearReady.setPhase p
  | answer | refuse | skip => exact ⟨h.paused_start, h.bitIndex_le, h.ready_full, h.count_lt⟩

/-! ## What a tick and a validation step leave unchanged -/

section
variable (s : State)

@[simp] theorem countTick_state : (countTick s).state = s.state := by unfold countTick; split <;> rfl
@[simp] theorem countTick_running : (countTick s).running = s.running := by unfold countTick; split <;> rfl
@[simp] theorem countTick_bitIndex : (countTick s).bitIndex = s.bitIndex := by unfold countTick; split <;> rfl
@[simp] theorem countTick_rawCode : (countTick s).rawCode = s.rawCode := by unfold countTick; split <;> rfl
@[simp] theorem countTick_codeReady : (countTick s).codeReady = s.codeReady := by unfold countTick; split <;> rfl
@[simp] theorem countTick_isRepeat : (countTick s).isRepeat = s.isRepeat := by unfold countTick; split <;> rfl
@[simp] theorem countTick_address : (countTick s).address = s.address := by unfold countTick; split <;> rfl
@[simp] theorem countTick_command : (countTick s).command = s.command := by unfold countTick; split <;> rfl

@[simp] theorem updateStep_bitIndex : (updateStep s).bitIndex = s.bitIndex := by rw [updateStep_frame]
@[simp] theorem updateStep_rawCode : (updateStep s).rawCode = s.rawCode := by rw [updateStep_frame]
@[simp] theorem updateStep_codeReady : (updateStep s).codeReady = s.codeReady := by rw [updateStep_frame]
@[simp] theorem updateStep_isRepeat : (updateStep s).isRepeat = s.isRepeat := by rw [updateStep_frame]
@[simp] theorem updateStep_ovfPending : (updateStep s).ovfPending = s.ovfPending := by rw [updateStep_frame]
@[simp] theorem updateStep_count_toNat : (updateStep s).count.toNat = s.count.toNat := by rw [updateStep_frame]

end

/-- A tick only ever sets the overflow latch (D17). -/
theorem countTick_ovfPending (s : State) :
    (countTick s).ovfPending = s.ovfPending ∨ (countTick s).ovfPending = true := by
  obtain ⟨-, he⟩ | ⟨-, he⟩ := countTick_cases s <;> rw [he]
  · exact .inr rfl
  · exact .inl rfl

theorem updateStep_fields_of_not_ready {s : State} (h : s.codeReady = false) :
    (updateStep s).address = s.address ∧ (updateStep s).command = s.command := by
  obtain ⟨hr, -⟩ | ⟨-, -, he⟩ | ⟨-, -, he⟩ := updateStep_cases s
  · simp [h] at hr
  · rw [he]; exact ⟨rfl, rfl⟩
  · rw [he]; exact ⟨rfl, rfl⟩

theorem updateStep_state (s : State) : (updateStep s).state = s.state ∨ (updateStep s).state = .start := by
  obtain ⟨-, he⟩ | ⟨-, -, he⟩ | ⟨-, -, he⟩ := updateStep_cases s <;> rw [he]
  · exact .inr rfl
  · exact .inr rfl
  · exact .inl rfl

/-! ## Who writes each register (R20 to R30) -/

namespace StepEffect

variable {s t : State}

/-- An edge at a repeat or at the 32nd bit sets `codeReady` and writes `isRepeat`; every other step keeps `isRepeat` and
does not set `codeReady`. -/
theorem flags_cases (h : StepEffect s t) :
    (t.isRepeat = s.isRepeat ∧ (t.codeReady = true → s.codeReady = true)) ∨
    ((∃ L, Presents (.edge L) s) ∧ s.codeReady = false ∧ t.codeReady = true ∧
      ((t.isRepeat = true ∧ s.state = .leadSpaceStart ∧ t.state = .start) ∨
        (t.isRepeat = false ∧ s.state = .getPulse ∧ t.bitIndex = 32))) := by
  cases h with
  | edge L rest hp hr he =>
    obtain ⟨hc, hi⟩ | ⟨hc, hw⟩ := he.flags_cases
    · exact .inl ⟨hi, hc.symm.trans⟩
    · exact .inr ⟨⟨L, hp⟩, hr, hc, hw⟩
  | tick | ovf | update | clear | answer | refuse | skip => exact .inl (by simp)

/-- Only an accepted edge writes the accumulator. -/
theorem accumulator_cases (h : StepEffect s t) :
    (t.rawCode = s.rawCode ∧ t.bitIndex = s.bitIndex) ∨
    ((∃ L, Presents (.edge L) s) ∧ s.codeReady = false ∧
      ((s.state = .leadSpaceStart ∧ t.state = .getPulse ∧ t.rawCode = 0 ∧ t.bitIndex = 0) ∨
        (s.state = .getPulse ∧ t.bitIndex = s.bitIndex + 1 ∧ s.bitIndex < 32 ∧
          ∀ k, s.rawCode.getLsbD k = true → t.rawCode.getLsbD k = true))) := by
  cases h with
  | edge L rest hp hr he => exact he.accumulator_cases.imp_right fun hw => ⟨⟨L, hp⟩, hr, hw⟩
  | tick | ovf | update | clear | answer | refuse | skip => exact .inl (by simp)

/-- Only the three consumers clear `codeReady`. -/
theorem ready_cleared (h : StepEffect s t) (hs : s.codeReady = true) (ht : t.codeReady = false) :
    Presents .skipThisCode s ∨
      (fetch s = .microStep ∧ (s.hostPhase = .rawCodeClear ∨ s.hostPhase = .commandClear)) := by
  cases h with
  | edge L rest hp hr he => simp [hs] at hr
  | clear rest p hp => exact hp
  | tick | ovf | update | answer | refuse | skip => simp [hs] at ht

/-- EDGE, OVF and the validation step are the writers of `state` and `running`. -/
theorem state_running_cases (h : StepEffect s t) :
    (t.state = s.state ∧ t.running = s.running) ∨
      (∃ L, Presents (.edge L) s) ∨ Presents .ovf s ∨ PresentsUpdate s := by
  cases h with
  | edge L rest hp hr he => exact .inr (.inl ⟨L, hp⟩)
  | ovf rest hp => exact .inr (.inr (.inl hp))
  | update rest p hp => exact .inr (.inr (.inr hp))
  | tick | clear | answer | refuse | skip => exact .inl (by simp)

/-- TICK sets the overflow latch and OVF clears it. -/
theorem ovfPending_cases (h : StepEffect s t) :
    t.ovfPending = s.ovfPending ∨ (t.ovfPending = true ∧ Presents .tick s) ∨
      (t.ovfPending = false ∧ Presents .ovf s) := by
  cases h with
  | edge L rest hp hr he => exact .inl he.ovfPending_eq
  | tick rest hp hr => exact (countTick_ovfPending { s with script := rest }).imp_right fun ht => .inl ⟨ht, hp⟩
  | ovf rest hp => exact .inr (.inr ⟨rfl, hp⟩)
  | update | clear | answer | refuse | skip => exact .inl (by simp)

/-- EDGE and TICK are the writers of `count`. -/
theorem count_cases (h : StepEffect s t) :
    t.count.toNat = s.count.toNat ∨ (∃ L, Presents (.edge L) s) ∨ Presents .tick s := by
  cases h with
  | edge L rest hp hr he => exact .inr (.inl ⟨L, hp⟩)
  | tick rest hp hr => exact .inr (.inr hp)
  | ovf | update | clear | answer | refuse | skip => exact .inl (by simp)

/-- With a code ready the only change of state is a return to START (R37, I4). -/
theorem state_of_ready (h : StepEffect s t) (hs : s.codeReady = true) (ht : t.state ≠ s.state) :
    t.state = .start ∧ (Presents .ovf s ∨ PresentsUpdate s) := by
  cases h with
  | edge L rest hp hr he => simp [hs] at hr
  | ovf rest hp => exact ⟨rfl, .inl hp⟩
  | update rest p hp => exact ⟨(updateStep_state { s with script := rest }).resolve_left ht, .inr hp⟩
  | tick | clear | answer | refuse | skip => simp at ht

end StepEffect

/-- A dropped edge changes nothing but the script (R101). -/
theorem step_edge_of_ready {s t : State} {L : Bool} (h : step s = .next t) (hr : s.codeReady = true)
    (hp : Presents (.edge L) s) : t = { s with script := t.script } := by
  obtain ⟨u, hf⟩ := hp
  obtain ⟨x, rest, -, rfl, -⟩ := fetch_op hf
  have he : exec (.edge L) { s with script := rest } = .next t := by simpa only [step, hf] using h
  rw [(execEdge_next he).2, if_pos (by exact hr)]

/-- Settles O43: from the writers of the two flags, and the edge dropped while a code is ready. -/
theorem readyFlagWriters : Obligations.ReadyFlagWriters := by
  intro s t hstep
  have h := step_effect hstep
  refine ⟨fun hs ht => ?_, h.ready_cleared, fun hs ⟨L, hp⟩ => step_edge_of_ready hstep hs hp⟩
  obtain ⟨-, hkeep⟩ | ⟨hp, -, -, hw⟩ := h.flags_cases
  · simp [hkeep ht] at hs
  · exact ⟨hp, hw.imp (fun ⟨hi, hst, _⟩ => ⟨hst, hi⟩) (fun ⟨hi, hst, hb⟩ => ⟨hst, hb, hi⟩)⟩

/-- Settles O44: `isRepeat` is written only with `codeReady`, and the state tells the two writes apart. -/
theorem repeatFlagWriters : Obligations.RepeatFlagWriters := by
  intro s t hstep
  obtain ⟨hi, hkeep⟩ | hw := (step_effect hstep).flags_cases
  · exact ⟨absurd hi, fun hs ht => by simp [hkeep ht] at hs⟩
  · refine ⟨fun _ => hw, fun _ _ => ?_⟩
    obtain ⟨-, -, -, ⟨hi, hst, -⟩ | ⟨hi, hst, -⟩⟩ := hw <;> simp [hi, hst]

/-- Settles O45: of a step's effects only a validation of a ready code writes the two fields. -/
theorem validatedFieldWriters : Obligations.ValidatedFieldWriters := by
  intro s t hstep hne
  cases step_effect hstep with
  | edge L rest hp hr he => simp [he.address_eq, he.command_eq] at hne
  | update rest p hp =>
    refine ⟨?_, hp⟩
    by_contra hr
    have hkeep := updateStep_fields_of_not_ready (s := { s with script := rest }) (by simpa using hr)
    simp [hkeep] at hne
  | tick | ovf | clear | answer | refuse | skip => simp at hne

/-- Settles O46: a step keeps both registers of the accumulator, or is an accepted edge. -/
theorem accumulatorWriters : Obligations.AccumulatorWriters := by
  intro s t hstep hne
  obtain ⟨hc, hb⟩ | hw := (step_effect hstep).accumulator_cases
  · simp [hc, hb] at hne
  · exact hw

/-- Settles O47: from the writers of each of the registers. -/
theorem timerAndStateWriters : Obligations.TimerAndStateWriters := by
  intro s t hstep
  have h := step_effect hstep
  refine ⟨fun hne => h.state_running_cases.resolve_left ?_, fun hs ht => ?_, fun hs ht => ?_,
    h.count_cases.resolve_left⟩
  · rintro ⟨hst, hrun⟩
    simp [hst, hrun] at hne
  · obtain he | ⟨-, hp⟩ | ⟨he, -⟩ := h.ovfPending_cases
    · simp [he, hs] at ht
    · exact hp
    · simp [he] at ht
  · obtain he | ⟨he, -⟩ | ⟨-, hp⟩ := h.ovfPending_cases
    · simp [he, hs] at ht
    · simp [he] at ht
    · exact hp

/-- Settles O48: the writers of the flags and of the accumulator need a code that is not ready. -/
theorem readyFrameIsLocked : Obligations.ReadyFrameIsLocked := by
  intro s t hstep hs
  have h := step_effect hstep
  obtain ⟨hcode, hindex⟩ := h.accumulator_cases.resolve_right (by simp [hs])
  obtain ⟨hrepeat, -⟩ := h.flags_cases.resolve_right (by simp [hs])
  exact ⟨hcode, hindex, hrepeat, h.state_of_ready hs⟩

end Sys2Proof.Machine
end

section
/-! PROOFS of the word statements (spec/30_encoding.md): which words the decoder accepts and refuses, the step that
refuses a word, and OVF with no pending overflow. -/

namespace Sys2Proof

/-! ## The two fields of a word (R71) -/

theorem toNat_eq_fields (w : Byte) : w.toNat = 16 * (wordClass w).toNat + (wordFunction w).toNat := by
  have hclass : (wordClass w).toNat = w.toNat / 16 := by
    rw [wordClass, BitVec.extractLsb'_toNat, Nat.shiftRight_eq_div_pow]
    omega
  have hfunction : (wordFunction w).toNat = w.toNat % 16 := by
    rw [wordFunction, BitVec.extractLsb'_toNat, Nat.shiftRight_zero]
  omega

/-! ## The table of words (R71, R76) -/

/-- The word of an operation names it: the ten lemmas of `Laws.OpWord`, as one. -/
theorem opOfWord_encode (i : Instr) : opOfWord (encode i) = some i := by
  cases i with
  | edge level => exact (Laws.OpWord.edge level).1
  | tick => exact Laws.OpWord.tick.1
  | ovf => exact Laws.OpWord.ovf.1
  | update => exact Laws.OpWord.update.1
  | codeReceived => exact Laws.OpWord.codeReceived.1
  | rawCode => exact Laws.OpWord.rawCode.1
  | address => exact Laws.OpWord.address.1
  | command => exact Laws.OpWord.command.1
  | newKeyPressed => exact Laws.OpWord.newKeyPressed.1
  | skipThisCode => exact Laws.OpWord.skipThisCode.1

/-- The word of a host operation is class 4 with its function. -/
theorem encode_toNat_of_hostOp {f : BitVec 4} {i : Instr} (h : hostOp f = some i) :
    (encode i).toNat = 16 * 4 + f.toNat := by
  unfold hostOp at h
  split_ifs at h with h0 h1 h2 h3 h4 h5 <;> cases h <;> subst f <;> rfl

theorem encode_of_opOfWord {w : Byte} {i : Instr} (h : opOfWord w = some i) : encode i = w := by
  unfold opOfWord at h
  split_ifs at h with hedge htick hovf hupdate hhost
  · cases h
    obtain rfl | rfl := hedge <;> rfl
  · cases h; exact htick.symm
  · cases h; exact hovf.symm
  · cases h; exact hupdate.symm
  · apply BitVec.eq_of_toNat_eq
    rw [encode_toNat_of_hostOp h, toNat_eq_fields w, hhost]
    rfl

theorem opOfWord_eq_some_iff (w : Byte) (i : Instr) : opOfWord w = some i ↔ encode i = w := by
  refine ⟨encode_of_opOfWord, ?_⟩
  rintro rfl
  exact opOfWord_encode i

theorem hostOp_eq_none_iff (f : BitVec 4) : hostOp f = none ↔ 6 ≤ f.toNat := by
  revert f
  decide

/-- The words outside the table. -/
theorem opOfWord_eq_none_iff (w : Byte) :
    opOfWord w = none ↔ w ≠ 0x10 ∧ w ≠ 0x11 ∧ w ≠ 0x20 ∧ w ≠ 0x30 ∧ w ≠ 0x31 ∧
      (wordClass w = 4 → 6 ≤ (wordFunction w).toNat) := by
  unfold opOfWord
  split_ifs with hedge htick hovf hupdate hhost
  · simp only [false_iff]; tauto
  · simp [htick]
  · simp [hovf]
  · simp [hupdate]
  · rw [hostOp_eq_none_iff]; tauto
  · simp only [true_iff]; tauto

/-! ## The decoder (R77, R79) -/

theorem decode_eq_ok_iff (w : Byte) (i : Instr) : decode w = .ok i ↔ opOfWord w = some i ∧ i.wellFormed = true := by
  unfold decode
  cases opOfWord w with
  | none => simp
  | some j =>
    by_cases hw : j.wellFormed = true
    · simp only [if_pos hw, Except.ok.injEq, Option.some.injEq]
      constructor
      · rintro rfl; exact ⟨rfl, hw⟩
      · exact And.left
    · simp only [if_neg hw, reduceCtorEq, Option.some.injEq, false_iff, not_and]
      rintro rfl; exact hw

/-- UPDATE is the one operation that is not presented on its own (R75). -/
theorem wellFormed_eq_false_iff_update (i : Instr) : i.wellFormed = false ↔ i = .update := by
  cases i <;> simp [Instr.wellFormed]

theorem decode_eq_internalOp_iff (w : Byte) : decode w = .error .internalOp ↔ opOfWord w = some .update := by
  unfold decode
  cases opOfWord w with
  | none => simp
  | some j => simp [← wellFormed_eq_false_iff_update]

theorem decode_eq_illegalOp_iff (w : Byte) : decode w = .error .illegalOp ↔ opOfWord w = none := by
  unfold decode
  cases opOfWord w with
  | none => simp
  | some j => cases hw : j.wellFormed <;> simp [hw]

/-- Settles O36: the table and the encoder are inverse to each other, and the decoder asks for
well-formedness besides. -/
theorem decodeAgreesWithEncode : Obligations.DecodeAgreesWithEncode := by
  intro w i
  rw [decode_eq_ok_iff, opOfWord_eq_some_iff, and_comm]

/-- Settles O35: the model's own lemmas, one per word. -/
theorem tableWordsDecode : Obligations.TableWordsDecode :=
  ⟨decode_edge_low, decode_edge_high, decode_tick, decode_ovf, decode_codeReceived, decode_rawCode, decode_address,
    decode_command, decode_newKeyPressed, decode_skipThisCode⟩

/-- Settles O37: 0x31 is UPDATE's word, and the ranges are the words that are neither a single row of the table nor
class 4 with a function below 6. -/
theorem otherWordsAreRefused : Obligations.OtherWordsAreRefused := by
  intro w
  constructor
  · rw [decode_eq_internalOp_iff, opOfWord_eq_some_iff]
    exact eq_comm
  · rw [decode_eq_illegalOp_iff, opOfWord_eq_none_iff]
    have hfields := toNat_eq_fields w
    have hfunction := (wordFunction w).isLt
    bv_omega

end Sys2Proof

namespace Sys2Proof.Machine

/-- Settles O39: a due word that is refused is the refusing step, whose guard passes a live state. -/
theorem stepRefusesWord : Obligations.StepRefusesWord := by
  intro s w a rest r hl hidle hs hd
  rw [step_of_decode_error hs (.inl hidle) hd]
  exact whenLive_of_live (s := { s with script := rest }) hl _

/-- Settles O14: a live state passes the guard of every step, and OVF's own test then fails. -/
theorem overflowWithoutPendingIsStuck : Obligations.OverflowWithoutPendingIsStuck := by
  intro s hl hp
  rw [exec, execOvf, whenLive_of_live hl, if_neg (by simp [hp])]

end Sys2Proof.Machine
end

section
/-! PROOFS of the frame statements (spec/30_encoding.md section 4, R85): what a sequence of marks and spaces does, from
single ticks and edges up to a lead, a data bit and a whole frame. -/

namespace Sys2Proof.Machine

theorem execMany_cons {i : Instr} {s t : State} (h : exec i s = .next t) (is : List Instr) :
    execMany (i :: is) s = execMany is t := by
  rw [execMany, h]

/-! ## Ticks (R141) -/

theorem exec_tick_of_running {s : State} (hl : s.Live) (hrun : s.running = true)
    (hc : s.count.toNat + 1 < s.config.timerPeriod) : exec .tick s = .next { s with count := s.count + 1 } := by
  rw [exec, execTick, whenLive_of_live hl, if_pos hrun, countTick, if_neg (by omega)]

/-- Ticks of a running timer that stay below the period add up. -/
theorem execMany_ticksOps (n : Nat) {s : State} (hl : s.Live) (hrun : s.running = true)
    (hc : s.count.toNat + n < s.config.timerPeriod) :
    execMany (ticksOps n) s = .next { s with count := s.count + BitVec.ofNat s.config.timerWidth n } := by
  induction n generalizing s with
  | zero => simp [ticksOps, execMany]
  | succ n ih =>
    have hcount := toNat_count_add_one hl (by omega)
    have hlt : (s.count + 1).toNat + n < s.config.timerPeriod := by omega
    have hsum : s.count + 1 + BitVec.ofNat s.config.timerWidth n =
        s.count + BitVec.ofNat s.config.timerWidth (n + 1) := by
      rw [Nat.add_comm n 1, BitVec.ofNat_add, BitVec.add_assoc]
      rfl
    rw [ticksOps, List.replicate_succ, execMany_cons (exec_tick_of_running hl hrun (by omega)), ← hsum]
    exact ih (s := { s with count := s.count + 1 }) hl hrun hlt

/-- The state some ticks after its count was 0. -/
def withCount (n : Nat) (s : State) : State := { s with count := BitVec.ofNat s.config.timerWidth n }

theorem execMany_ticksOps_of_count_zero {s : State} {n : Nat} (hl : s.Live) (hrun : s.running = true)
    (hcount : s.count = 0) (hn : n < s.config.timerPeriod) : execMany (ticksOps n) s = .next (withCount n s) := by
  have hsum : s.count + BitVec.ofNat s.config.timerWidth n = BitVec.ofNat s.config.timerWidth n := by
    rw [hcount]
    exact BitVec.zero_add _
  rw [execMany_ticksOps n hl hrun (by simpa [hcount] using hn), hsum]
  rfl

/-- The count of a live state holds every number of ticks below the period (R12). -/
theorem withCount_toNat {s : State} {n : Nat} (hl : s.Live) (hn : n < s.config.timerPeriod) :
    (withCount n s).count.toNat = n :=
  Nat.mod_eq_of_lt (lt_of_lt_of_le hn (live_timerFits hl))

theorem timerResetCount_withCount {s : State} (n : Nat) (hcount : s.count = 0) :
    timerResetCount (withCount n s) = s := by
  rw [show timerResetCount (withCount n s) = { s with count := 0 } from rfl, ← hcount]

/-! ## Edges: one equation per procedure (R101 to R110) -/

theorem exec_edge_of_ready {s : State} (L : Bool) (hl : s.Live) (hr : s.codeReady = true) :
    exec (.edge L) s = .next s := by
  rw [exec, execEdge, whenLive_of_live hl, if_pos hr]

theorem exec_edge_of_not_ready {s : State} (L : Bool) (hl : s.Live) (hr : s.codeReady = false) :
    exec (.edge L) s = .next (acceptedEdge L s) := by
  rw [exec, execEdge, whenLive_of_live hl, if_neg (by simp [hr])]

section
variable {s : State} (L : Bool)

theorem acceptedEdge_of_start (hs : s.state = .start) : acceptedEdge L s = edgeStart (timerResetCount s) := by
  rw [acceptedEdge, edgeCase, timerResetCount_state, hs]

theorem acceptedEdge_of_leadPulseStart (hs : s.state = .leadPulseStart) :
    acceptedEdge L s = edgeLeadPulse s.count.toNat (timerResetCount s) := by
  rw [acceptedEdge, edgeCase, timerResetCount_state, hs]
  rfl

theorem acceptedEdge_of_leadSpaceStart (hs : s.state = .leadSpaceStart) :
    acceptedEdge L s = edgeLeadSpace s.count.toNat (timerResetCount s) := by
  rw [acceptedEdge, edgeCase, timerResetCount_state, hs]
  rfl

theorem acceptedEdge_high_of_getPulse (hs : s.state = .getPulse) : acceptedEdge true s = timerResetCount s := by
  rw [acceptedEdge, edgeCase, timerResetCount_state, hs]
  rfl

theorem acceptedEdge_low_of_getPulse (hs : s.state = .getPulse) (hok : dataBitOk s.config s.count.toNat = true)
    (hb : s.bitIndex < 32) :
    acceptedEdge false s =
      completeIfFull (accumulate (classify s.config s.count.toNat) (timerResetCount s)) := by
  have hfull : ¬ 32 ≤ (timerResetCount s).bitIndex := BitVec.not_le.mpr hb
  rw [acceptedEdge, edgeCase, timerResetCount_state, hs]
  simp only [edgeGetPulse, timerReadCount, timerResetCount_config, Bool.false_eq_true, if_false, if_pos hok,
    if_neg hfull]

end

/-! ## An interval: ticks, then an edge (R85) -/

/-- A state that measures the interval since the last edge from 0 and accepts the next edge. -/
structure Measuring (s : State) : Prop where
  live : s.Live
  running : s.running = true
  count_eq : s.count = 0
  not_ready : s.codeReady = false

/-- An interval below the period ends in an accepted edge that reads it. -/
theorem execMany_interval {s : State} (h : Measuring s) {n : Nat} (hn : n < s.config.timerPeriod) (L : Bool)
    (is : List Instr) :
    execMany (ticksOps n ++ .edge L :: is) s = execMany is (acceptedEdge L (withCount n s)) := by
  rw [execMany_append _ _ _ _ (execMany_ticksOps_of_count_zero h.live h.running h.count_eq hn)]
  exact execMany_cons (exec_edge_of_not_ready (s := withCount n s) L h.live h.not_ready) is

/-! ## A lead: an edge in START, a mark in the lead-pulse window and a space (R103 to R105) -/

/-- The state after a lead's mark. -/
def leadMarked (s : State) : State := { s with state := .leadSpaceStart, running := true, count := 0 }

theorem execMany_lead {s : State} {mark space : Nat} (hl : s.Live) (hs : s.state = .start) (hr : s.codeReady = false)
    (hm : mark < s.config.timerPeriod) (hok : leadPulseOk s.config mark = true) (hsp : space < s.config.timerPeriod) :
    execMany (.edge false :: markSpaceOps mark space) s = .next (edgeLeadSpace space (leadMarked s)) := by
  have hbegin : exec (.edge false) s = .next (edgeStart (timerResetCount s)) := by
    rw [exec_edge_of_not_ready false hl hr, acceptedEdge_of_start false hs]
  have hpulse : Measuring (edgeStart (timerResetCount s)) := ⟨hl, rfl, rfl, hr⟩
  have hmark : acceptedEdge true (withCount mark (edgeStart (timerResetCount s))) = leadMarked s := by
    rw [acceptedEdge_of_leadPulseStart true rfl, withCount_toNat hpulse.live hm,
      timerResetCount_withCount mark hpulse.count_eq, edgeLeadPulse, if_pos (by exact hok)]
    rfl
  have hspace : Measuring (leadMarked s) := ⟨hl, rfl, rfl, hr⟩
  rw [execMany_cons hbegin, markSpaceOps, execMany_interval hpulse hm, hmark, execMany_interval hspace hsp,
    acceptedEdge_of_leadSpaceStart false rfl, withCount_toNat hspace.live hsp,
    timerResetCount_withCount space hspace.count_eq]
  rfl

/-- Settles O59: a lead whose space is in the window and below LEAD_SPACE_MIN is a repeat. -/
theorem repeatIsReceived : Obligations.RepeatIsReceived := by
  intro s hl hc hs hr
  rw [repeatLeadOps, execMany_lead hl hs hr (by rw [hc]; decide) (by rw [hc]; decide) (by rw [hc]; decide),
    edgeLeadSpace, show (leadMarked s).config = Config.default from hc, if_pos (by decide), if_pos (by decide), ← hs]
  rfl

/-! ## A data bit: a mark of any length and a space in the window (R106 to R110) -/

theorem execMany_dataBit {s : State} {mark space : Nat} (h : Measuring s) (hs : s.state = .getPulse)
    (hm : mark < s.config.timerPeriod) (hsp : space < s.config.timerPeriod) (hok : dataBitOk s.config space = true)
    (hb : s.bitIndex < 32) :
    execMany (markSpaceOps mark space) s = .next (completeIfFull (accumulate (classify s.config space) s)) := by
  have hn : (withCount space s).count.toNat = space := withCount_toNat h.live hsp
  rw [markSpaceOps, execMany_interval h hm, acceptedEdge_high_of_getPulse (s := withCount mark s) hs,
    timerResetCount_withCount mark h.count_eq, execMany_interval h hsp,
    acceptedEdge_low_of_getPulse (s := withCount space s) hs (by rw [hn]; exact hok) hb, hn,
    timerResetCount_withCount space h.count_eq]
  rfl

/-! ## A frame's 32 data bits, least significant first -/

/-- The bits of `v` below position `k`. -/
def lowBits (v : Code) (k : Nat) : Code := (v.setWidth k).setWidth 32

theorem getLsbD_lowBits (v : Code) (k j : Nat) : (lowBits v k).getLsbD j = (decide (j < k) && v.getLsbD j) := by
  have hj : v.getLsbD j = true → j < 32 := BitVec.lt_of_getLsbD
  simp only [lowBits, BitVec.getLsbD_setWidth]
  cases hv : v.getLsbD j
  · simp
  · simp [hj hv]

/-- Bit `k` of `v` put at position `k` of the bits below it (R109). -/
theorem orBitAt_lowBits (v : Code) (k : Nat) : orBitAt (lowBits v k) k (v.getLsbD k) = lowBits v (k + 1) := by
  apply BitVec.eq_of_getLsbD_eq
  intro j hj
  rw [getLsbD_orBitAt, getLsbD_lowBits, getLsbD_lowBits]
  obtain h | rfl | h := Nat.lt_trichotomy j k
  · simp [h, h.ne, h.trans (Nat.lt_succ_self k)]
  · simp [hj]
  · simp [h.not_gt, h.ne', show ¬ j < k + 1 by omega]

/-- The state in which the bits of `v` below position `k` have been counted. -/
def bitsCounted (v : Code) (k : Nat) (s : State) : State :=
  { s with rawCode := lowBits v k, bitIndex := BitVec.ofNat 6 k }

theorem enterGetPulse_eq_bitsCounted (v : Code) (s : State) :
    enterGetPulse s = bitsCounted v 0 { s with state := .getPulse } := by
  have hzero : lowBits v 0 = 0 := BitVec.eq_of_getLsbD_eq fun j _ => by simp [getLsbD_lowBits]
  rw [bitsCounted, hzero]
  rfl

theorem accumulate_bitsCounted (v : Code) {k : Nat} (hk : k < 32) (s : State) :
    accumulate (v.getLsbD k) (bitsCounted v k s) = bitsCounted v (k + 1) s := by
  have hindex : (BitVec.ofNat 6 k).toNat = k := Nat.mod_eq_of_lt (by omega)
  have hnext : BitVec.ofNat 6 k + 1 = BitVec.ofNat 6 (k + 1) := (BitVec.ofNat_add k 1).symm
  simp only [accumulate, bitsCounted, hindex, hnext, orBitAt_lowBits]

theorem completeIfFull_bitsCounted_of_lt (v : Code) {k : Nat} (hk : k < 32) (s : State) :
    completeIfFull (bitsCounted v k s) = bitsCounted v k s := by
  have hne : BitVec.ofNat 6 k ≠ 32 := by bv_omega
  exact if_neg hne

theorem completeIfFull_bitsCounted_full (v : Code) (s : State) :
    completeIfFull (bitsCounted v 32 s) = flagComplete { s with rawCode := v, bitIndex := 32 } := by
  rw [bitsCounted, lowBits, BitVec.setWidth_eq, BitVec.setWidth_eq]
  rfl

/-- Marks and spaces that spell the bits of `v` under a configuration: every interval below the period, every space in
the data-bit window and classified as its bit. -/
def Spells (c : Config) (mark space : Nat → Nat) (v : Code) : Prop :=
  ∀ k < 32, mark k < c.timerPeriod ∧ space k < c.timerPeriod ∧ dataBitOk c (space k) = true ∧
    classify c (space k) = v.getLsbD k

theorem execMany_dataBits {s : State} {mark space : Nat → Nat} {v : Code} (h : Measuring s) (hs : s.state = .getPulse)
    (hv : Spells s.config mark space v) {n : Nat} (hn : n ≤ 32) :
    execMany ((List.range n).flatMap fun k => markSpaceOps (mark k) (space k)) (bitsCounted v 0 s) =
      .next (completeIfFull (bitsCounted v n s)) := by
  induction n with
  | zero => rw [completeIfFull_bitsCounted_of_lt v (by omega)]; rfl
  | succ n ih =>
    have hlt : n < 32 := hn
    obtain ⟨hm, hsp, hok, hbit⟩ := hv n hlt
    have hcounted : Measuring (bitsCounted v n s) := ⟨h.live, h.running, h.count_eq, h.not_ready⟩
    have hindex : BitVec.ofNat 6 n < 32 := by bv_omega
    have hone : execMany (markSpaceOps (mark n) (space n)) (bitsCounted v n s) =
        .next (completeIfFull (bitsCounted v (n + 1) s)) := by
      rw [execMany_dataBit hcounted hs hm hsp hok hindex, show (bitsCounted v n s).config = s.config from rfl, hbit,
        accumulate_bitsCounted v hlt]
    rw [List.range_succ, List.flatMap_append, execMany_append _ _ _ _ (ih (by omega)),
      completeIfFull_bitsCounted_of_lt v hlt]
    simpa using hone

/-! ## A whole frame under the default configuration (W1) -/

/-- `BIT0` and `BIT1` spell every code under the default configuration. -/
theorem spells_default (v : Code) :
    Spells Config.default (fun _ => 560) (fun k => if v.getLsbD k then 1650 else 560) v := by
  intro k _
  cases hv : v.getLsbD k <;> simp only [hv] <;> decide

/-- The state after a lead with a full space. -/
def leadReceived (s : State) : State := { s with state := .getPulse, running := true, count := 0 }

theorem execMany_leadOps {s : State} (v : Code) (hl : s.Live) (hc : s.config = Config.default) (hs : s.state = .start)
    (hr : s.codeReady = false) : execMany leadOps s = .next (bitsCounted v 0 (leadReceived s)) := by
  rw [leadOps, execMany_lead hl hs hr (by rw [hc]; decide) (by rw [hc]; decide) (by rw [hc]; decide), edgeLeadSpace,
    show (leadMarked s).config = Config.default from hc, if_pos (by decide), if_neg (by decide),
    enterGetPulse_eq_bitsCounted v]
  rfl

/-- The trailing edge of a frame is dropped: the code is ready (R101). -/
theorem execMany_stopOps {s : State} (hl : s.Live) (hrun : s.running = true) (hcount : s.count = 0)
    (hn : 560 < s.config.timerPeriod) (hr : s.codeReady = true) : execMany stopOps s = .next (withCount 560 s) := by
  rw [stopOps, execMany_append _ _ _ _ (execMany_ticksOps_of_count_zero hl hrun hcount hn)]
  exact execMany_cons (exec_edge_of_ready (s := withCount 560 s) true hl hr) []

/-- Settles O58: the lead enters GET_PULSE, the 32 data bits count `v` and complete it, and the trailing edge is
dropped. -/
theorem frameIsReceived : Obligations.FrameIsReceived := by
  intro s v hl hc hs hr
  have hspells : Spells s.config (fun _ => 560) (fun k => if v.getLsbD k then 1650 else 560) v := by
    rw [hc]; exact spells_default v
  have hbits := execMany_dataBits (s := leadReceived s) ⟨hl, rfl, rfl, hr⟩ rfl hspells le_rfl
  rw [completeIfFull_bitsCounted_full] at hbits
  have hstop : 560 < s.config.timerPeriod := by rw [hc]; decide
  have hlead := execMany_leadOps v hl hc hs hr
  simp only [frameOps, bitOps]
  rw [execMany_append _ stopOps _ _ ((execMany_append leadOps _ _ _ hlead).trans hbits)]
  exact execMany_stopOps (s := flagComplete { leadReceived s with rawCode := v, bitIndex := 32 }) hl rfl rfl
    hstop rfl

end Sys2Proof.Machine
end

section
/-! PROOFS of the Edge Handler statements (spec/40_edge_handler.md): an accepted edge of GET_PULSE evaluated or faulting,
the rules of EDGE one by one, its pure form, and what every step keeps of a frame in progress. -/

namespace Sys2Proof.Machine

/-! ## An evaluated edge (R107, R111) -/

/-- A test of a closed window, written as the rules write its two violations (R104, R105, R107). -/
theorem ite_inWindow {α : Type} (lo hi e : Nat) (inside outside : α) :
    (if inWindow lo hi e = true then inside else outside) = if e < lo ∨ hi < e then outside else inside := by
  cases h : inWindow lo hi e with
  | true =>
    have hin := (inWindow_iff lo hi e).mp h
    rw [if_pos rfl, if_neg (by omega)]
  | false => rw [if_neg (by simp), if_pos ((inWindow_eq_false_iff lo hi e).mp h)]

section
variable {s : State} (hs : s.state = .getPulse)
include hs

theorem acceptedEdge_low_of_outside (hout : dataBitOk s.config s.count.toNat = false) :
    acceptedEdge false s = violation (timerResetCount s) := by
  rw [acceptedEdge, edgeCase, timerResetCount_state, hs]
  simp only [edgeGetPulse, timerReadCount, timerResetCount_config, Bool.false_eq_true, if_false, hout]

theorem acceptedEdge_low_of_full (hok : dataBitOk s.config s.count.toNat = true) (hb : 32 ≤ s.bitIndex) :
    acceptedEdge false s = raiseFault (overrunRecord s.count.toNat false s) s := by
  have hfull : 32 ≤ (timerResetCount s).bitIndex := hb
  rw [acceptedEdge, edgeCase, timerResetCount_state, hs]
  simp only [edgeGetPulse, timerReadCount, timerResetCount_config, Bool.false_eq_true, if_false, if_pos hok,
    if_pos hfull]
  rfl

end

/-- The classified bit, as the rule writes it (R108, R109). -/
theorem orBitAt_classify (c : Config) (e : Nat) (v : Code) (k : Nat) :
    orBitAt v k (classify c e) = v ||| ((if e < c.lowMax then 0#32 else 1#32) <<< k) := by
  by_cases h : e < c.lowMax <;> simp [orBitAt, classify, h]

@[simp] theorem completeIfFull_faulted (s : State) : (completeIfFull s).faulted = s.faulted := by
  unfold completeIfFull; split <;> rfl

/-! ## EDGE, rule by rule (R101 to R112) -/

/-- Settles O1: the guard of EDGE drops the edge. -/
theorem edgeDroppedWhileCodeReady : Obligations.EdgeDroppedWhileCodeReady :=
  fun _ L hl hr => exec_edge_of_ready L hl hr

/-- Settles O2: the procedure of START ignores the interval and the level. -/
theorem edgeInStartBeginsLeadPulse : Obligations.EdgeInStartBeginsLeadPulse := by
  intro s L hl hr hs
  rw [exec_edge_of_not_ready L hl hr, acceptedEdge_of_start L hs]
  rfl

/-- Settles O3: the procedure of LEAD_PULSE_START, its window read from outside. -/
theorem edgeChecksLeadPulseWindow : Obligations.EdgeChecksLeadPulseWindow := by
  intro s L hl hr hs
  rw [exec_edge_of_not_ready L hl hr, acceptedEdge_of_leadPulseStart L hs, edgeLeadPulse, leadPulseOk, ite_inWindow]
  rfl

/-- Settles O4: the procedure of LEAD_SPACE_START, its window read from outside. -/
theorem edgeSplitsLeadSpace : Obligations.EdgeSplitsLeadSpace := by
  intro s L hl hr hs
  rw [exec_edge_of_not_ready L hl hr, acceptedEdge_of_leadSpaceStart L hs, edgeLeadSpace, leadSpaceOk, ite_inWindow,
    isRepeatSpace]
  simp only [decide_eq_true_eq]
  rfl

/-- Settles O5: with the level high only the count reset is left of the procedure of GET_PULSE. -/
theorem highEdgeInGetPulseOnlyResetsCount : Obligations.HighEdgeInGetPulseOnlyResetsCount := by
  intro s hl hr hs
  rw [exec_edge_of_not_ready true hl hr, acceptedEdge_high_of_getPulse hs]
  rfl

/-- Settles O6: the window is asked before `bitIndex`. -/
theorem dataBitOutsideWindowViolates : Obligations.DataBitOutsideWindowViolates := by
  intro s hl hr hs hout
  rw [exec_edge_of_not_ready false hl hr, acceptedEdge_low_of_outside hs ((inWindow_eq_false_iff _ _ _).mpr hout)]
  rfl

/-- Settles O7: the bit is accumulated, and the two cases are whether it is the 32nd. -/
theorem dataBitIsAccumulated : Obligations.DataBitIsAccumulated := by
  intro s hl hr hs hlo hhi hb
  rw [exec_edge_of_not_ready false hl hr, acceptedEdge_low_of_getPulse hs ((inWindow_iff _ _ _).mpr ⟨hlo, hhi⟩) hb,
    ← orBitAt_classify, completeIfFull]
  by_cases hfull : s.bitIndex + 1#6 = 32#6
  · rw [if_pos (by exact hfull)]
    simp [hfull, accumulate, flagComplete, timerResetCount]
  · rw [if_neg (by exact hfull)]
    simp [hfull, hr, accumulate, timerResetCount]

/-- Settles O8: the overrun check comes after the window, and the fault is raised on the state before the step. -/
theorem thirtyThirdBitFaults : Obligations.ThirtyThirdBitFaults := by
  intro s hl hr hs hlo hhi hb
  rw [exec_edge_of_not_ready false hl hr, acceptedEdge_low_of_full hs ((inWindow_iff _ _ _).mpr ⟨hlo, hhi⟩) hb]
  rfl

/-- An accepted edge sets the fault mark at an overrun only (R111). -/
theorem acceptedEdge_faulted {s : State} {L : Bool} (h : s.faulted = false) (hf : (acceptedEdge L s).faulted = true) :
    s.state = .getPulse ∧ L = false ∧ dataBitOk s.config s.count.toNat = true ∧ 32 ≤ s.bitIndex := by
  obtain ⟨-, he⟩ | ⟨-, -, he⟩ | ⟨-, -, -, he⟩ | ⟨-, -, -, he⟩ | ⟨-, he⟩ | ⟨-, -, he⟩ | ⟨hs, hL, hok, hb, -⟩ |
    ⟨-, -, -, -, he⟩ := acceptedEdge_cases L s
  pick_goal 7
  · exact ⟨hs, hL, hok, hb⟩
  all_goals simp [he, h] at hf

/-- Settles O9: a live state has the mark clear, so that only an accepted edge at an overrun sets it; O8 is
the overrun. -/
theorem edgeFaultsOnlyOnOverrun : Obligations.EdgeFaultsOnlyOnOverrun := by
  intro s t L h
  obtain ⟨hl, ht⟩ := execEdge_next h
  have hclear : s.faulted = false := hl.2.1
  constructor
  · intro hf
    cases hr : s.codeReady with
    | true => simp [ht, hr, hclear] at hf
    | false =>
      rw [ht, if_neg (by simp [hr])] at hf
      obtain ⟨hs, hL, hok, hb⟩ := acceptedEdge_faulted hclear hf
      obtain ⟨hlo, hhi⟩ := (inWindow_iff _ _ _).mp hok
      exact ⟨rfl, hs, hL, hlo, hhi, hb⟩
  · rintro ⟨hr, hs, rfl, hlo, hhi, hb⟩
    rw [thirtyThirdBitFaults s hl hr hs hlo hhi hb] at h
    cases h
    rfl

theorem EdgeEffect.frame {s t : State} (h : EdgeEffect s t) :
    ∃ c, t = { s with
      count := c, running := t.running, state := t.state, bitIndex := t.bitIndex, rawCode := t.rawCode
      codeReady := t.codeReady, isRepeat := t.isRepeat, faulted := t.faulted, faultRecord := t.faultRecord } := by
  cases h <;> exact ⟨_, rfl⟩

/-- Settles O10: a dropped edge writes nothing, and every effect of an accepted one writes the listed fields only. -/
theorem edgeFrame : Obligations.EdgeFrame := by
  intro s t L h
  obtain ⟨-, rfl⟩ := execEdge_next h
  cases hr : s.codeReady with
  | true => exact ⟨⟨s.count, rfl⟩, fun _ => hr⟩
  | false => exact ⟨(acceptedEdge_effect L s).frame, nofun⟩

/-! ## The pure form (R115) -/

/-- Settles O11: rule by rule, the pure step function writes what the rule's statement says. -/
theorem edgeAgreesWithPureStep : Obligations.EdgeAgreesWithPureStep := by
  intro s L hl
  cases hr : s.codeReady with
  | true => rw [edgeDroppedWhileCodeReady s L hl hr, pureEdge, if_pos hr]
  | false =>
    cases hs : s.state with
    | start =>
      rw [edgeInStartBeginsLeadPulse s L hl hr hs]
      simp [pureEdge, edgeStep, writeEdgeOut, runTimerCmd, hr, hs]
    | leadPulseStart =>
      rw [edgeChecksLeadPulseWindow s L hl hr hs]
      simp only [pureEdge, edgeStep, hr, hs]
      split <;> simp [writeEdgeOut, runTimerCmd, hr]
    | leadSpaceStart =>
      rw [edgeSplitsLeadSpace s L hl hr hs]
      simp only [pureEdge, edgeStep, hr, hs]
      split
      · simp [writeEdgeOut, runTimerCmd, hr]
      · split <;> simp [writeEdgeOut, runTimerCmd, hr]
    | getPulse =>
      cases L with
      | true =>
        rw [highEdgeInGetPulseOnlyResetsCount s hl hr hs]
        simp [pureEdge, edgeStep, writeEdgeOut, runTimerCmd, hr, hs]
      | false =>
        by_cases hout : s.count.toNat < s.config.lowMin ∨ s.config.highMax < s.count.toNat
        · rw [dataBitOutsideWindowViolates s hl hr hs hout]
          simp [pureEdge, edgeStep, writeEdgeOut, runTimerCmd, hr, hs, hout]
        · obtain ⟨hlo, hhi⟩ := not_or.mp hout
          by_cases hb : 32#6 ≤ s.bitIndex
          · rw [thirtyThirdBitFaults s hl hr hs (not_lt.mp hlo) (not_lt.mp hhi) hb]
            simp [pureEdge, edgeStep, raiseFault, hr, hs, hout, hb]
          · rw [dataBitIsAccumulated s hl hr hs (not_lt.mp hlo) (not_lt.mp hhi) (BitVec.not_le.mp hb)]
            by_cases hfull : s.bitIndex + 1#6 = 32#6 <;>
              simp [pureEdge, edgeStep, writeEdgeOut, runTimerCmd, hr, hs, hout, hb, hfull]

/-! ## The bits at and above `bitIndex` (R109) -/

/-- A bit put at `bitIndex` lies below the next one. -/
theorem accumulate_codeBelowIndex {s : State} (h : CodeBelowIndex s) (hb : s.bitIndex < 32) (b : Bool) :
    CodeBelowIndex (accumulate b s) := by
  intro k hk
  rw [accumulate_bitIndex, toNat_bitIndex_add_one hb] at hk
  have hne : k ≠ s.bitIndex.toNat := by omega
  rw [accumulate_rawCode, getLsbD_orBitAt, h k (by omega)]
  simp [hne]

theorem EdgeEffect.codeBelowIndex {s t : State} (he : EdgeEffect s t) (h : CodeBelowIndex s) : CodeBelowIndex t := by
  cases he with
  | bitCounted b _ hb | frameCompleted b _ hb =>
    exact accumulate_codeBelowIndex (s := timerResetCount s) h hb b
  | frameBegins => exact fun _ _ => BitVec.getLsbD_zero
  | leadPulseBegins | leadSpaceBegins | repeated | violated | notEvaluated | overrun => exact h

/-- Settles O52: only an accepted edge writes the accumulator, and it counts a bit below 32 or clears both registers. -/
theorem stepKeepsCodeBelowIndex : Obligations.StepKeepsCodeBelowIndex := by
  intro s t h hstep
  cases step_effect hstep with
  | edge L rest hp hr he => exact he.codeBelowIndex h
  | tick | ovf | update | clear | answer | refuse | skip => simpa [CodeBelowIndex] using h

/-! ## The state in which a further bit faults (R111, R237, R238) -/

/-- An accepted edge does not enter it: the 32nd bit leaves a code ready (R110). -/
theorem EdgeEffect.discarded {s t : State} (he : EdgeEffect s t) (h : Discarded t) : Discarded s := by
  cases he with
  | notEvaluated | overrun => exact h
  | bitCounted b hs hb hn =>
    obtain ⟨-, hfull, -⟩ := h
    exact absurd hfull hn
  | frameCompleted | leadPulseBegins | leadSpaceBegins | repeated | violated | frameBegins => simp [Discarded] at h

/-- With no code ready no step enters it: a validation step keeps the state or leaves GET_PULSE (R161). -/
theorem StepEffect.discarded {s t : State} (he : StepEffect s t) (hr : s.codeReady = false) (h : Discarded t) :
    Discarded s := by
  cases he with
  | edge L rest hp hr he => exact he.discarded h
  | update rest p hp =>
    obtain ⟨hs, hb, -⟩ := h
    refine ⟨?_, by simpa using hb, hr⟩
    obtain hkeep | hstart := updateStep_state { s with script := rest }
    · exact hkeep.symm.trans hs
    · cases hstart.symm.trans hs
  | ovf => simp [Discarded] at h
  | clear => exact ⟨h.1, h.2.1, hr⟩
  | tick | answer | refuse | skip => simpa [Discarded] using h

/-- Settles O49: with no code ready no step enters the state, and with one ready the step cleared it. -/
theorem overrunStateNeedsDiscard : Obligations.OverrunStateNeedsDiscard := by
  intro s t hstep ht hs
  have he := step_effect hstep
  have hcleared : t.codeReady = false := ht.2.2
  have hr : s.codeReady = true := by
    by_contra hr
    exact hs (he.discarded (by simpa using hr) ht)
  exact ⟨hr, he.ready_cleared hr hcleared⟩

/-! ## Any 32 spaces (R106 to R110) -/

/-- The code that a list of marks and spaces spells: bit `k` is the class of the `k`-th space (R108). -/
def spelledCode (c : Config) (bits : List (Nat × Nat)) : Code :=
  BitVec.ofFnLE fun k : Fin 32 => classify c (bits.getD k (0, 0)).2

theorem getLsbD_spelledCode (c : Config) (bits : List (Nat × Nat)) {k : Nat} (hk : k < 32) :
    (spelledCode c bits).getLsbD k = classify c (bits.getD k (0, 0)).2 := by
  rw [spelledCode, BitVec.getLsbD_ofFnLE, dif_pos hk]

/-- A list walked by position. -/
theorem flatMap_eq_flatMap_range {α β : Type} (l : List α) (d : α) (f : α → List β) :
    l.flatMap f = (List.range l.length).flatMap fun k => f (l.getD k d) := by
  have hl : l = (List.range l.length).map fun k => l.getD k d := List.ext_getElem (by simp) (by simp +contextual)
  conv_lhs => rw [hl, List.flatMap_map]

/-- On entry to GET_PULSE no bit has been counted, of whatever code. -/
theorem bitsCounted_zero_of_entered {s : State} (v : Code) (hs : s.state = .getPulse) (hb : s.bitIndex = 0)
    (hv : s.rawCode = 0) : bitsCounted v 0 s = s := by
  have hstate : { s with state := .getPulse } = s := by rw [← hs]
  have henter : enterGetPulse s = s := by rw [enterGetPulse, ← hs, ← hb, ← hv]
  rwa [enterGetPulse_eq_bitsCounted v, hstate] at henter

/-- Settles O57: the marks and spaces spell the code of the spaces' classes, and 32 data bits count it. -/
theorem thirtyTwoSpacesFillRawCode : Obligations.ThirtyTwoSpacesFillRawCode := by
  intro s bits hl hs hr hb hv hrun hcount hlen hbits
  have hget {k : Nat} (hk : k < bits.length) : bits.getD k (0, 0) = bits[k] := by simp [hk]
  have hspells : Spells s.config (fun k => (bits.getD k (0, 0)).1) (fun k => (bits.getD k (0, 0)).2)
      (spelledCode s.config bits) := by
    intro k hk
    have hk' : k < bits.length := by omega
    obtain ⟨hm, hsp, hlo, hhi⟩ := hbits bits[k] (List.getElem_mem hk')
    beta_reduce
    rw [getLsbD_spelledCode _ _ hk, hget hk']
    exact ⟨hm, hsp, (inWindow_iff _ _ _).mpr ⟨hlo, hhi⟩, rfl⟩
  have hrun32 := execMany_dataBits ⟨hl, hrun, hcount, hr⟩ hs hspells le_rfl
  rw [bitsCounted_zero_of_entered _ hs hb hv, completeIfFull_bitsCounted_full] at hrun32
  refine ⟨spelledCode s.config bits, ?_, fun k hk => ?_⟩
  · rw [flatMap_eq_flatMap_range bits (0, 0), hlen]
    exact hrun32
  · rw [getLsbD_spelledCode _ _ (by omega), hget hk, classify_iff]

end Sys2Proof.Machine
end

section
/-! PROOFS of the timer and watchdog statements (spec/41_timer_watchdog.md): what TICK and OVF do to a live state, what
they leave unchanged, and a whole period of ticks with no accepted edge. -/

namespace Sys2Proof.Machine

/-! ## One TICK, one OVF (R141 to R143) -/

/-- Settles O12: a live state passes the guard of TICK, and a running timer counts. -/
theorem tickCountsAndWraps : Obligations.TickCountsAndWraps := by
  intro s hl
  rw [exec, execTick, whenLive_of_live hl]
  by_cases hrun : s.running = true
  · rw [if_pos hrun, if_neg (by simp [hrun]), countTick]
  · rw [if_neg hrun, if_pos (by simpa using hrun)]

/-- Settles O13: a live state passes the guard of OVF, and the pending flag enables the handler. -/
theorem overflowHandlerReturnsToStart : Obligations.OverflowHandlerReturnsToStart := by
  intro s hl hp
  rw [exec, execOvf, whenLive_of_live hl, if_pos hp]
  rfl

/-- What a tick of a running timer can write: `count` and `ovfPending`. -/
theorem countTick_frame (s : State) :
    ∃ c, countTick s = { s with count := c, ovfPending := (countTick s).ovfPending } := by
  obtain ⟨-, hwrap⟩ | ⟨-, hcount⟩ := countTick_cases s
  · exact ⟨0, by rw [hwrap]⟩
  · exact ⟨s.count + 1, by rw [hcount]⟩

/-- Settles O15: a TICK leaves the state as it is or counts, and an OVF is the Overflow Handler. -/
theorem timerStepsFrame : Obligations.TimerStepsFrame := by
  refine ⟨fun s t h => ?_, fun s t h => ?_⟩
  · obtain ⟨-, rfl⟩ := execTick_next h
    split
    · exact countTick_frame s
    · exact ⟨s.count, rfl⟩
  · obtain ⟨-, -, rfl⟩ := execOvf_next h
    rfl

/-! ## Sequences of ticks (R141, R145) -/

/-- Settles O16: this is the rule for ticks that the frame statements use. -/
theorem ticksAddUp : Obligations.TicksAddUp :=
  fun n _ hl hrun hc => execMany_ticksOps n hl hrun hc

/-- The state after a wrap: the count starts again at 0 and the overflow is pending (D17). -/
def wrapped (s : State) : State := { s with count := 0, ovfPending := true }

theorem exec_tick_at_period {s : State} (hl : s.Live) (hrun : s.running = true)
    (hc : s.count.toNat + 1 = s.config.timerPeriod) : exec .tick s = .next (wrapped s) := by
  rw [tickCountsAndWraps s hl, if_neg (by simp [hrun]), if_pos (by omega), wrapped]

/-- Ticks of a running timer up to the end of the period wrap it, whatever the count they begin at. -/
theorem execMany_ticksOps_to_period (n : Nat) {s : State} (hl : s.Live) (hrun : s.running = true)
    (hc : s.count.toNat + (n + 1) = s.config.timerPeriod) : execMany (ticksOps (n + 1)) s = .next (wrapped s) := by
  induction n generalizing s with
  | zero => exact execMany_cons (exec_tick_at_period hl hrun hc) []
  | succ n ih =>
    have hlt : s.count.toNat + 1 < s.config.timerPeriod := by omega
    have hrest : (s.count + 1).toNat + (n + 1) = s.config.timerPeriod := by
      rw [toNat_count_add_one hl hlt]
      omega
    rw [ticksOps, List.replicate_succ, execMany_cons (exec_tick_of_running hl hrun hlt)]
    exact ih (s := { s with count := s.count + 1 }) hl hrun hrest

/-- As many ticks after a wrap as were counted before it bring the count back. -/
theorem withCount_wrapped (s : State) : withCount s.count.toNat (wrapped s) = { s with ovfPending := true } := by
  have hcount : BitVec.ofNat s.config.timerWidth s.count.toNat = s.count := by simp
  rw [withCount, wrapped, hcount]

/-- A whole period of ticks from any count below it: to the end of the period, then back up to that count (R145). -/
theorem execMany_ticksOps_timerPeriod {s : State} (hl : s.Live) (hrun : s.running = true)
    (hc : s.count.toNat < s.config.timerPeriod) :
    execMany (ticksOps s.config.timerPeriod) s = .next { s with ovfPending := true } := by
  obtain ⟨n, hn⟩ := Nat.exists_eq_add_of_lt hc
  have hsplit : ticksOps s.config.timerPeriod = ticksOps (n + 1) ++ ticksOps s.count.toNat := by
    rw [hn, Nat.add_assoc, Nat.add_comm]
    exact List.replicate_add ..
  rw [hsplit, execMany_append _ _ _ _ (execMany_ticksOps_to_period n hl hrun hn.symm),
    execMany_ticksOps_of_count_zero (s := wrapped s) hl hrun rfl hc, withCount_wrapped]

/-- Settles O17: the period of ticks leaves the overflow pending, which enables OVF. -/
theorem silenceTimesOut : Obligations.SilenceTimesOut := by
  intro s hl hrun hc
  have hticks := execMany_ticksOps_timerPeriod hl hrun hc
  refine ⟨hticks, ?_⟩
  rw [execMany_append _ _ _ _ hticks]
  exact execMany_cons (overflowHandlerReturnsToStart { s with ovfPending := true } hl rfl) []

end Sys2Proof.Machine
end

section
/-! PROOFS of the host interface statements (spec/42_facade.md): the complement check, UPDATE, the first and the later
micro-steps of the host operations, and whole host operations taken word by word from the script. -/

namespace Sys2Proof.Machine

/-! ## The complement check (R162) -/

/-- A byte is the complement of another exactly when the two sum to 0xFF. -/
theorem eq_not_iff_toNat_add_eq (v w : Byte) : v = ~~~w ↔ v.toNat + w.toNat = 0xFF := by
  bv_omega

/-- Settles O18: the check compares with the complement, which is the sum form. -/
theorem validate8ChecksComplement : Obligations.Validate8ChecksComplement := by
  intro v w
  rw [← eq_not_iff_toNat_add_eq, ne_eq, ← eq_not_iff_toNat_add_eq]
  exact ⟨fun h => if_pos h, fun h => if_neg h⟩

/-! ## UPDATE (R161) -/

section
variable {s : State}

theorem updateStep_of_ready (hr : s.codeReady = true) : updateStep s = returnToStart (validateFields s) :=
  if_pos hr

theorem updateStep_of_not_ready (hr : s.codeReady = false) :
    updateStep s = if s.config.updateResetUnconditional = true then returnToStart s else s :=
  if_neg (by simp [hr])

variable (s)

@[simp] theorem updateStep_config : (updateStep s).config = s.config := by rw [updateStep_frame]
@[simp] theorem updateStep_hostPhase : (updateStep s).hostPhase = s.hostPhase := by rw [updateStep_frame]
@[simp] theorem updateStep_faulted : (updateStep s).faulted = s.faulted := by rw [updateStep_frame]
@[simp] theorem updateStep_refused : (updateStep s).refused = s.refused := by rw [updateStep_frame]
@[simp] theorem updateStep_returns : (updateStep s).returns = s.returns := by rw [updateStep_frame]

/-- UPDATE clears no flag and keeps the code, so that it validates the same bytes again. -/
theorem updateStep_updateStep : updateStep (updateStep s) = updateStep s := by
  cases hr : s.codeReady with
  | true =>
    rw [updateStep_of_ready hr, updateStep_of_ready (s := returnToStart (validateFields s)) hr]
    rfl
  | false =>
    cases hu : s.config.updateResetUnconditional with
    | true =>
      have hreset : updateStep s = returnToStart s := by rw [updateStep_of_not_ready hr, if_pos hu]
      rw [hreset, updateStep_of_not_ready (s := returnToStart s) hr, if_pos (by exact hu)]
      rfl
    | false =>
      have hkeep : updateStep s = s := by rw [updateStep_of_not_ready hr, if_neg (by simp [hu])]
      rw [hkeep, hkeep]

end

theorem updateStep_live {s : State} (hl : s.Live) : (updateStep s).Live := by
  simpa [State.Live] using hl

theorem exec_update_of_live {s : State} (hl : s.Live) : exec .update s = .next (updateStep s) := by
  rw [exec, execUpdate, whenLive_of_live hl]

/-- Settles O21: the state UPDATE leaves is live again, and the validation step is idempotent. -/
theorem updateIsIdempotent : Obligations.UpdateIsIdempotent := by
  intro s t h
  obtain ⟨hl, rfl⟩ := execUpdate_next h
  rw [exec_update_of_live (updateStep_live hl), updateStep_updateStep]

/-- Settles O19: the validation of a ready code, its bytes at their places. -/
theorem updateValidatesReadyCode : Obligations.UpdateValidatesReadyCode := by
  intro s hl hr
  rw [exec_update_of_live hl, updateStep_of_ready hr]
  rfl

/-- Settles O20: without a ready code only the parameter's reset is left of the validation step. -/
theorem updateWithoutReadyCode : Obligations.UpdateWithoutReadyCode := by
  intro s hl hr
  rw [exec_update_of_live hl, updateStep_of_not_ready hr]
  rfl

/-! ## First micro-steps with the host idle or busy (R160, R163 to R168, R171) -/

section
variable {s : State} (hl : s.Live) (hidle : s.hostPhase = .idle)
include hl hidle

theorem exec_codeReceived_of_idle : exec .codeReceived s = .next (hostReturn (.bit s.codeReady) s) := by
  rw [exec, execCodeReceived, whenIdle_of_idle hl hidle]

theorem exec_newKeyPressed_of_idle : exec .newKeyPressed s = .next (hostReturn (.bit (!s.isRepeat)) s) := by
  rw [exec, execNewKeyPressed, whenIdle_of_idle hl hidle]

theorem exec_skipThisCode_of_idle : exec .skipThisCode s = .next (clearReady s) := by
  rw [exec, execSkipThisCode, whenIdle_of_idle hl hidle]

theorem exec_rawCode_of_idle : exec .rawCode s = .next (setPhase .rawCodeClear (updateStep s)) := by
  rw [exec, execRawCode, whenIdle_of_idle hl hidle]

theorem exec_address_of_idle : exec .address s = .next (setPhase .addressReturn (updateStep s)) := by
  rw [exec, execAddress, whenIdle_of_idle hl hidle]

theorem exec_command_of_idle : exec .command s = .next (setPhase .commandClear (updateStep s)) := by
  rw [exec, execCommand, whenIdle_of_idle hl hidle]

end

/-- Settles O22: an idle host passes the guard, and the operation is a return. -/
theorem codeReceivedReturnsReadyFlag : Obligations.CodeReceivedReturnsReadyFlag :=
  fun _ hl hidle => exec_codeReceived_of_idle hl hidle

/-- Settles O23: an idle host passes the guard, and the operation is a return. -/
theorem newKeyPressedReturnsNotRepeat : Obligations.NewKeyPressedReturnsNotRepeat :=
  fun _ hl hidle => exec_newKeyPressed_of_idle hl hidle

/-- Settles O24: an idle host passes the guard, and the operation is one write. -/
theorem skipThisCodeClearsReady : Obligations.SkipThisCodeClearsReady :=
  fun _ hl hidle => exec_skipThisCode_of_idle hl hidle

/-- Settles O25: each of the three is the validation step and a phase. -/
theorem consumersBeginWithUpdate : Obligations.ConsumersBeginWithUpdate :=
  fun s hl hidle => ⟨updateStep s, exec_update_of_live hl, exec_rawCode_of_idle hl hidle,
    exec_address_of_idle hl hidle, exec_command_of_idle hl hidle⟩

/-- Settles O31: the first operation leaves a live state with the host idle and nothing ready. -/
theorem skippedCodeIsNotReceived : Obligations.SkippedCodeIsNotReceived := by
  intro s hl hidle
  rw [execMany_cons (exec_skipThisCode_of_idle hl hidle),
    execMany_cons (exec_codeReceived_of_idle (s := clearReady s) hl hidle)]
  rfl

/-- Of the host's operations only the internal UPDATE has no guard against another in progress (R171). -/
theorem exec_of_busy {i : Instr} {s : State} (hl : s.Live) (hbusy : s.hostPhase ≠ .idle) (hi : i.agent = .host)
    (hu : i ≠ .update) : exec i s = .fault .hostBusy := by
  cases i with
  | edge | tick | ovf => cases hi
  | update => exact absurd rfl hu
  | codeReceived | rawCode | address | command | newKeyPressed | skipThisCode =>
    rw [exec]
    exact whenIdle_busy hl hbusy _

/-- Settles O32: all six are operations of the host that begin with the guard. -/
theorem hostOperationsExcludeOneAnother : Obligations.HostOperationsExcludeOneAnother :=
  fun _ hl hbusy => ⟨exec_of_busy hl hbusy rfl nofun, exec_of_busy hl hbusy rfl nofun, exec_of_busy hl hbusy rfl nofun,
    exec_of_busy hl hbusy rfl nofun, exec_of_busy hl hbusy rfl nofun, exec_of_busy hl hbusy rfl nofun⟩

/-- The first micro-step of the three consumers writes the validation step's fields and the phase. -/
theorem setPhase_updateStep_frame (p : HostPhase) (s : State) :
    setPhase p (updateStep s) = { s with
      address := (updateStep s).address, command := (updateStep s).command, state := (updateStep s).state
      running := (updateStep s).running, hostPhase := p } :=
  congrArg (setPhase p) (updateStep_frame s)

/-- Settles O33: each operation's inversion names the one shared update it makes. -/
theorem hostOperationsFrame : Obligations.HostOperationsFrame := by
  refine fun s t => ⟨fun h => ?update, ?consumers, ?returns, fun h => ?skip⟩
  case update =>
    obtain ⟨-, rfl⟩ := execUpdate_next h
    exact updateStep_frame s
  case consumers =>
    rintro (h | h | h)
    · obtain ⟨-, -, rfl⟩ := execRawCode_next h
      exact setPhase_updateStep_frame _ s
    · obtain ⟨-, -, rfl⟩ := execAddress_next h
      exact setPhase_updateStep_frame _ s
    · obtain ⟨-, -, rfl⟩ := execCommand_next h
      exact setPhase_updateStep_frame _ s
  case returns =>
    rintro (h | h)
    · obtain ⟨-, -, rfl⟩ := execCodeReceived_next h
      rfl
    · obtain ⟨-, -, rfl⟩ := execNewKeyPressed_next h
      rfl
  case skip =>
    obtain ⟨-, -, rfl⟩ := execSkipThisCode_next h
    rfl

/-! ## Later micro-steps (R160) -/

/-- The micro-step at phase `p` clears the ready flag and goes on to phase `q`. -/
def ClearsAt (p q : HostPhase) : Prop :=
  ∀ s : State, s.hostPhase = p → microEffect s = { s with codeReady := false, hostPhase := q }

/-- The micro-step at phase `p` returns the value and is the operation's last. -/
def ReturnsAt (p : HostPhase) (value : State → HostValue) : Prop :=
  ∀ s : State, s.hostPhase = p → microEffect s = { s with returns := s.returns ++ [value s], hostPhase := .idle }

theorem clearsAt_rawCodeClear : ClearsAt .rawCodeClear .rawCodeReturn := by
  intro s hp
  rw [microEffect, hp]
  rfl

theorem clearsAt_commandClear : ClearsAt .commandClear .commandReturn := by
  intro s hp
  rw [microEffect, hp]
  rfl

theorem returnsAt_rawCodeReturn : ReturnsAt .rawCodeReturn fun s => .word s.rawCode := by
  intro s hp
  rw [microEffect, hp]
  rfl

theorem returnsAt_addressReturn : ReturnsAt .addressReturn fun s => .byte s.address := by
  intro s hp
  rw [microEffect, hp]
  rfl

theorem returnsAt_commandReturn : ReturnsAt .commandReturn fun s => .byte s.command := by
  intro s hp
  rw [microEffect, hp]
  rfl

theorem step_of_fetch_microStep {s : State} (hl : s.Live) (hf : fetch s = .microStep) :
    step s = .next (microEffect s) := by
  simp only [step, hf]
  exact whenLive_of_live hl _

/-- Settles O26: the effect of the micro-step at each phase. -/
theorem microStepsComplete : Obligations.MicroStepsComplete := by
  intro s hl hf
  rw [step_of_fetch_microStep hl hf]
  exact ⟨fun hp => congrArg _ (clearsAt_rawCodeClear s hp), fun hp => congrArg _ (returnsAt_rawCodeReturn s hp),
    fun hp => congrArg _ (returnsAt_addressReturn s hp), fun hp => congrArg _ (clearsAt_commandClear s hp),
    fun hp => congrArg _ (returnsAt_commandReturn s hp)⟩

/-! ## Runs of steps -/

theorem runSteps_add {m : Nat} (n : Nat) {s t : State} (h : runSteps m s = .next t) :
    runSteps (m + n) s = runSteps n t := by
  induction m generalizing s with
  | zero =>
    cases h
    rw [Nat.zero_add]
  | succ m ih =>
    rw [Nat.add_right_comm, runSteps]
    rw [runSteps] at h
    split at h
    · exact ih h
    · cases h
    · cases h

theorem runSteps_one {s t : State} (h : step s = .next t) : runSteps 1 s = .next t := by
  simp only [runSteps, h]

/-- A word placed after micro-step 2 waits for a micro-step that is not the third (R160). -/
theorem step_of_afterSecond {s : State} {w : Byte} {rest : List Entry} (hl : s.Live)
    (hs : s.script = ⟨w, .afterSecond⟩ :: rest) (hp : s.hostPhase ≠ .idle)
    (hdue : Placement.due .afterSecond s.hostPhase = false) : step s = .next (microEffect s) := by
  rw [step_of_not_wordDue hs (by simp [WordDue, hp, hdue])]
  exact whenLive_of_live hl _

/-! ## RAW_CODE, ADDRESS and COMMAND as whole operations (R164 to R166) -/

/-- The state after micro-step 1 of a consumer, its word taken off the script. -/
def begun (p : HostPhase) (rest : List Entry) (s : State) : State :=
  { updateStep s with script := rest, hostPhase := p }

theorem begun_live {s : State} (hl : s.Live) (p : HostPhase) (rest : List Entry) : (begun p rest s).Live :=
  updateStep_live hl

/-- The state after micro-step 2 of a consuming operation, the ready flag cleared besides. -/
def cleared (p : HostPhase) (rest : List Entry) (s : State) : State :=
  { updateStep s with script := rest, codeReady := false, hostPhase := p }

/-- The operation `i` begins with the validation step and goes on to phase `p`. -/
def BeginsAt (i : Instr) (p : HostPhase) : Prop :=
  i.wellFormed = true ∧ ∀ s : State, s.Live → s.hostPhase = .idle → exec i s = .next (setPhase p (updateStep s))

theorem step_of_beginsAt {s : State} {i : Instr} {p : HostPhase} {a : Placement} {rest : List Entry}
    (hi : BeginsAt i p) (hl : s.Live) (hidle : s.hostPhase = .idle) (hs : s.script = ⟨encode i, a⟩ :: rest) :
    step s = .next (begun p rest s) := by
  obtain ⟨hw, hexec⟩ := hi
  have hd : decode (encode i) = .ok i := (decodeAgreesWithEncode _ i).mpr ⟨hw, rfl⟩
  rw [stepRunsDecodedOperation s _ a rest i hs hd (.inl hidle), hexec { s with script := rest } hl hidle,
    updateStep_withScript]
  rfl

/-- Settles O28: UPDATE, and with no word apart the return of what it wrote. -/
theorem addressBackToBack : Obligations.AddressBackToBack := by
  intro s a rest hl hidle hs hn
  have hbegin : step s = .next (begun .addressReturn rest s) :=
    step_of_beginsAt (i := .address) ⟨rfl, fun _ => exec_address_of_idle⟩ hl hidle hs
  have hreturn := step_of_notApart (s := begun .addressReturn rest s) (begun_live hl _ _) nofun hn
  refine ⟨updateStep s, exec_update_of_live hl, updateStep_codeReady s, ?_⟩
  rw [runSteps_add 1 (runSteps_one hbegin), runSteps_one hreturn, returnsAt_addressReturn _ rfl]
  simp [begun, hidle]

/-- A consuming operation in three micro-steps: UPDATE, `codeReady <- 0`, return the value (R164, R166). -/
structure Consumes (i : Instr) (clear last : HostPhase) (value : State → HostValue) : Prop where
  begins : BeginsAt i clear
  clears : ClearsAt clear last
  returns : ReturnsAt last value
  clear_ne_idle : clear ≠ .idle
  clear_not_third : Placement.due .afterSecond clear = false
  last_third : last = .rawCodeReturn ∨ last = .commandReturn

theorem consumes_rawCode : Consumes .rawCode .rawCodeClear .rawCodeReturn fun s => .word s.rawCode where
  begins := ⟨rfl, fun _ => exec_rawCode_of_idle⟩
  clears := clearsAt_rawCodeClear
  returns := returnsAt_rawCodeReturn
  clear_ne_idle := nofun
  clear_not_third := rfl
  last_third := .inl rfl

theorem consumes_command : Consumes .command .commandClear .commandReturn fun s => .byte s.command where
  begins := ⟨rfl, fun _ => exec_command_of_idle⟩
  clears := clearsAt_commandClear
  returns := returnsAt_commandReturn
  clear_ne_idle := nofun
  clear_not_third := rfl
  last_third := .inr rfl

/-- What an EDGE, TICK or OVF between micro-steps leaves as it was, of what the operation in progress goes on with. -/
structure KeepsOperation (s t : State) : Prop where
  config : t.config = s.config
  command : t.command = s.command
  hostPhase : t.hostPhase = s.hostPhase
  refused : t.refused = s.refused
  script : t.script = s.script
  returns : t.returns = s.returns

theorem keepsOperation_of_exec {i : Instr} {s t : State} (hi : (∃ L, i = .edge L) ∨ i = .tick ∨ i = .ovf)
    (h : exec i s = .next t) : KeepsOperation s t := by
  obtain ⟨L, rfl⟩ | rfl | rfl := hi
  · obtain ⟨⟨c, ht⟩, -⟩ := edgeFrame s t L h
    constructor <;> rw [ht]
  · obtain ⟨c, ht⟩ := timerStepsFrame.1 s t h
    constructor <;> rw [ht]
  · have ht := timerStepsFrame.2 s t h
    constructor <;> rw [ht]

namespace Consumes

section
variable {i : Instr} {clear last : HostPhase} {value : State → HostValue} {s : State} {a : Placement}
  {rest : List Entry}
variable (h : Consumes i clear last value)
include h

theorem last_ne_idle : last ≠ .idle := by
  obtain rfl | rfl := h.last_third <;> nofun

/-- Micro-steps 1 and 2, where the second is taken as soon as the first has been. -/
theorem runSteps_two (hl : s.Live) (hidle : s.hostPhase = .idle) (hs : s.script = ⟨encode i, a⟩ :: rest)
    (hclear : step (begun clear rest s) = .next (microEffect (begun clear rest s))) :
    runSteps 2 s = .next (cleared last rest s) := by
  rw [runSteps_add 1 (runSteps_one (step_of_beginsAt h.begins hl hidle hs)), runSteps_one hclear, h.clears _ rfl]
  rfl

/-- The last micro-step, with no word apart. -/
theorem runSteps_last {t : State} (hl : t.Live) (hp : t.hostPhase = last) (hn : NotApart t.script) :
    runSteps 1 t = .next { t with returns := t.returns ++ [value t], hostPhase := .idle } := by
  rw [runSteps_one (step_of_notApart hl (hp ▸ h.last_ne_idle) hn), h.returns t hp]

theorem runSteps_backToBack (hl : s.Live) (hidle : s.hostPhase = .idle) (hs : s.script = ⟨encode i, a⟩ :: rest)
    (hn : NotApart rest) :
    runSteps 3 s = .next { updateStep s with
      script := rest, codeReady := false, returns := s.returns ++ [value (cleared last rest s)] } := by
  have hclear := step_of_notApart (s := begun clear rest s) (begun_live hl _ _) h.clear_ne_idle hn
  rw [runSteps_add 1 (h.runSteps_two hl hidle hs hclear),
    h.runSteps_last (t := cleared last rest s) (updateStep_live hl) rfl hn]
  simp [cleared, hidle]

/-- A step placed after micro-step 2 is taken on the state that micro-step left, and keeps what the last one needs. -/
theorem runSteps_between {j : Instr} {w : State} (hl : s.Live) (hidle : s.hostPhase = .idle)
    (hj : (∃ L, j = .edge L) ∨ j = .tick ∨ j = .ovf) (hn : NotApart rest)
    (hs : s.script = ⟨encode i, a⟩ :: ⟨encode j, .afterSecond⟩ :: rest)
    (hexec : exec j (cleared last rest s) = .next w) (hw : w.faulted = false) :
    runSteps 4 s = .next { w with returns := s.returns ++ [value w], hostPhase := .idle } := by
  have hclear := step_of_afterSecond (s := begun clear (⟨encode j, .afterSecond⟩ :: rest) s) (begun_live hl _ _) rfl
    h.clear_ne_idle h.clear_not_third
  have hwf : j.wellFormed = true := by obtain ⟨L, rfl⟩ | rfl | rfl := hj <;> rfl
  have hd : decode (encode j) = .ok j := (decodeAgreesWithEncode _ j).mpr ⟨hwf, rfl⟩
  have hbetween : step (cleared last (⟨encode j, .afterSecond⟩ :: rest) s) = .next w :=
    (stepRunsDecodedOperation _ _ _ rest j rfl hd (.inr ⟨.inr ⟨rfl, h.last_third⟩, hj⟩)).trans hexec
  have hkeep := keepsOperation_of_exec hj hexec
  obtain ⟨hconfig, -, hrefused⟩ := updateStep_live hl
  have hlw : w.Live := ⟨hkeep.config ▸ hconfig, hw, hkeep.refused.trans hrefused⟩
  rw [runSteps_add 2 (h.runSteps_two hl hidle hs hclear), runSteps_add 1 (runSteps_one hbetween),
    h.runSteps_last hlw hkeep.hostPhase (hkeep.script ▸ hn), hkeep.returns]
  simp [cleared]

end
end Consumes

/-- Settles O27: the value returned is the code, which UPDATE keeps. -/
theorem rawCodeBackToBack : Obligations.RawCodeBackToBack := by
  intro s a rest hl hidle hs hn
  refine ⟨updateStep s, exec_update_of_live hl, ?_⟩
  rw [consumes_rawCode.runSteps_backToBack hl hidle hs hn]
  simp [cleared]

/-- Settles O29: the value returned is the command that UPDATE left. -/
theorem commandBackToBack : Obligations.CommandBackToBack :=
  fun s _ _ hl hidle hs hn =>
    ⟨updateStep s, exec_update_of_live hl, consumes_command.runSteps_backToBack hl hidle hs hn⟩

/-- Settles O60: both halves are a step between the last two micro-steps of a consuming operation, and that step does not
write the command. -/
theorem stepBetweenClearAndReturn : Obligations.StepBetweenClearAndReturn := by
  intro s u w i a rest hl hidle hi hn hu hw
  obtain ⟨-, rfl⟩ := execUpdate_next hu
  refine ⟨fun hs hexec => consumes_rawCode.runSteps_between hl hidle hi hn hs hexec hw, fun hs hexec => ?_⟩
  rw [← (keepsOperation_of_exec hi hexec).command]
  exact consumes_command.runSteps_between hl hidle hi hn hs hexec hw

/-- What a RAW_CODE back to back leaves for the next one: a live state with the host idle, and the code kept. -/
theorem runSteps_rawCode {s : State} {a : Placement} {rest : List Entry} (hl : s.Live) (hidle : s.hostPhase = .idle)
    (hs : s.script = ⟨0x41, a⟩ :: rest) (hn : NotApart rest) :
    ∃ t, runSteps 3 s = .next t ∧ t.Live ∧ t.hostPhase = .idle ∧ t.script = rest ∧ t.rawCode = s.rawCode ∧
      t.codeReady = false ∧ t.returns = s.returns ++ [.word s.rawCode] := by
  obtain ⟨u, hu, hrun⟩ := rawCodeBackToBack s a rest hl hidle hs hn
  obtain ⟨-, rfl⟩ := execUpdate_next hu
  exact ⟨_, hrun, updateStep_live hl, (updateStep_hostPhase s).trans hidle, rfl, updateStep_rawCode s, rfl, rfl⟩

/-- Settles O30: the first RAW_CODE keeps the code and leaves the host idle, so that the second returns it again. -/
theorem secondRawCodeReturnsSame : Obligations.SecondRawCodeReturnsSame := by
  intro s a rest hl hidle hs hn
  have hapart : NotApart (⟨0x41, .backToBack⟩ :: rest) := by simp [NotApart]
  obtain ⟨t, hfirst, htl, htidle, hts, htcode, -, htret⟩ := runSteps_rawCode hl hidle hs hapart
  obtain ⟨u, hsecond, -, huidle, hus, hucode, huready, huret⟩ := runSteps_rawCode htl htidle hts hn
  refine ⟨u, (runSteps_add 3 hfirst).trans hsecond, ?_, hucode.trans htcode, huready, huidle, hus⟩
  rw [huret, htret, htcode, List.append_assoc]
  rfl

end Sys2Proof.Machine
end

section
/-! PROOFS of the exception statements (spec/60_exceptions.md): a fault or a refusal sets one mark with its record, and
no other effect of a step writes a mark or a record. -/

namespace Sys2Proof.Machine

/-! ## Outcome marks and their records (R202, R203)

A mark may be set only where the other is clear, which in a step the guard of a live state gives (R33, R204). -/

section
variable {s : State} (h : MarksAgree s)
include h

theorem MarksAgree.raiseFault (hr : s.refused = false) (r : FaultRecord) : MarksAgree (raiseFault r s) := by
  obtain ⟨-, hrefusal, -⟩ := h
  exact ⟨rfl, hrefusal, by simp [hr]⟩

theorem MarksAgree.refuseWord (hf : s.faulted = false) (r : WordRefusal) : MarksAgree (refuseWord r s) := by
  obtain ⟨hfault, -, -⟩ := h
  exact ⟨hfault, rfl, by simp [hf]⟩

theorem MarksAgree.countTick : MarksAgree (countTick s) := by
  obtain ⟨c, he⟩ := countTick_frame s
  rw [he]
  exact h

theorem MarksAgree.updateStep : MarksAgree (updateStep s) := by
  rw [updateStep_frame]
  exact h

/-- Of what an accepted edge does, only the 33rd bit writes a mark (R111). -/
theorem MarksAgree.edgeEffect {t : State} (hr : s.refused = false) (he : EdgeEffect s t) : MarksAgree t := by
  cases he with
  | overrun r => exact h.raiseFault hr r
  | leadPulseBegins | leadSpaceBegins | repeated | frameBegins | violated | notEvaluated | bitCounted | frameCompleted =>
    exact h

end

/-- Settles O53: a step starts with both marks clear, and of its effects only the fault of an edge and the refusal of a
word set one. -/
theorem stepKeepsMarksAgree : Obligations.StepKeepsMarksAgree := by
  intro s t h hstep
  obtain ⟨⟨-, hf, hr⟩, -⟩ := step_next hstep
  cases step_effect hstep with
  | edge L rest hp hready he => exact MarksAgree.edgeEffect (s := { s with script := rest }) h hr he
  | tick rest => exact MarksAgree.countTick (s := { s with script := rest }) h
  | update rest => exact MarksAgree.updateStep (s := { s with script := rest }) h
  | refuse rest r => exact MarksAgree.refuseWord (s := { s with script := rest }) h hf r
  | ovf | clear | answer | skip => exact h

end Sys2Proof.Machine
end

section
/-! PROOFS of the reset and hazard statements (spec/70_reset_and_hazards.md): the end of a run, what a step does to the
configuration, the script and the returned values, and the race of the 32nd bit with COMMAND. -/

namespace Sys2Proof.Machine

/-! ## The end of a run (R243) -/

/-- Settles O42: with no word and no micro-step left the next step is the end of the run, whose guard a state that has
ended well passes. -/
theorem runEndsWithScript : Obligations.RunEndsWithScript := by
  intro s ⟨hs, hidle, hf, hr⟩ hw
  rw [step_of_script_nil hs, if_pos hidle]
  exact whenLive_of_live ⟨hw, hf, hr⟩ _

/-! ## The configuration, the script and the returned values (R83, R231, R243) -/

/-- What every effect of a step keeps, once its word is off the script: the configuration and the words still to be
presented, and the values returned so far, to which it adds at most one. -/
structure ExtendsReturns (s t : State) : Prop where
  config : t.config = s.config
  script : t.script = s.script
  returns : t.returns = s.returns ∨ ∃ v, t.returns = s.returns ++ [v]

theorem extendsReturns_updateStep (s : State) : ExtendsReturns s (updateStep s) := by
  rw [updateStep_frame]
  exact ⟨rfl, rfl, .inl rfl⟩

theorem ExtendsReturns.setPhase {s t : State} (h : ExtendsReturns s t) (p : HostPhase) :
    ExtendsReturns s (setPhase p t) :=
  ⟨h.config, h.script, h.returns⟩

theorem KeepsOperation.extendsReturns {s t : State} (h : KeepsOperation s t) : ExtendsReturns s t :=
  ⟨h.config, h.script, .inl h.returns⟩

/-- Of the operations only CODE_RECEIVED and NEW_KEY_PRESSED return a value at once (R163, R167). -/
theorem extendsReturns_of_exec {i : Instr} {s t : State} (h : exec i s = .next t) : ExtendsReturns s t := by
  cases i with
  | edge L => exact (keepsOperation_of_exec (.inl ⟨L, rfl⟩) h).extendsReturns
  | tick => exact (keepsOperation_of_exec (.inr (.inl rfl)) h).extendsReturns
  | ovf => exact (keepsOperation_of_exec (.inr (.inr rfl)) h).extendsReturns
  | update => obtain ⟨-, rfl⟩ := execUpdate_next h; exact extendsReturns_updateStep s
  | rawCode => obtain ⟨-, -, rfl⟩ := execRawCode_next h; exact (extendsReturns_updateStep s).setPhase _
  | address => obtain ⟨-, -, rfl⟩ := execAddress_next h; exact (extendsReturns_updateStep s).setPhase _
  | command => obtain ⟨-, -, rfl⟩ := execCommand_next h; exact (extendsReturns_updateStep s).setPhase _
  | codeReceived => obtain ⟨-, -, rfl⟩ := execCodeReceived_next h; exact ⟨rfl, rfl, .inr ⟨_, rfl⟩⟩
  | newKeyPressed => obtain ⟨-, -, rfl⟩ := execNewKeyPressed_next h; exact ⟨rfl, rfl, .inr ⟨_, rfl⟩⟩
  | skipThisCode => obtain ⟨-, -, rfl⟩ := execSkipThisCode_next h; exact ⟨rfl, rfl, .inl rfl⟩

theorem extendsReturns_microEffect {s : State} (hp : s.hostPhase ≠ .idle) : ExtendsReturns s (microEffect s) := by
  obtain ⟨-, he⟩ | ⟨-, he⟩ | ⟨v, he, -⟩ := microEffect_cases hp <;> rw [he]
  · exact ⟨rfl, rfl, .inl rfl⟩
  · exact ⟨rfl, rfl, .inl rfl⟩
  · exact ⟨rfl, rfl, .inr ⟨v, rfl⟩⟩

/-- A presented word is the script's first. -/
theorem script_of_fetch_op {s : State} {i : Instr} {rest : List Entry}
    (hf : fetch s = .op i { s with script := rest }) : ∃ x, s.script = x :: rest := by
  obtain ⟨x, rest', hs, hrest, -⟩ := fetch_op hf
  obtain rfl : rest = rest' := congrArg State.script hrest
  exact ⟨x, hs⟩

/-- A refused word is the script's first. -/
theorem script_of_fetch_badWord {s : State} {r : WordRefusal} {rest : List Entry}
    (hf : fetch s = .badWord r { s with script := rest }) : ∃ x, s.script = x :: rest := by
  obtain ⟨x, rest', hs, hrest, -⟩ := fetch_badWord hf
  obtain rfl : rest = rest' := congrArg State.script hrest
  exact ⟨x, hs⟩

/-- Settles O54: a step takes the script's first word and then runs or refuses it, or takes no word and is a
micro-step. -/
theorem stepKeepsConfigAndExtendsReturns : Obligations.StepKeepsConfigAndExtendsReturns := by
  intro s t h
  obtain ⟨-, ⟨i, rest, hf, hexec, -⟩ | ⟨r, rest, hf, rfl⟩ | ⟨hf, rfl⟩⟩ := step_next h
  · obtain ⟨x, hs⟩ := script_of_fetch_op hf
    obtain ⟨hconfig, hscript, hreturns⟩ := extendsReturns_of_exec hexec
    exact ⟨hconfig, hreturns, .inr ⟨x, hscript ▸ hs⟩⟩
  · exact ⟨rfl, .inl rfl, .inr (script_of_fetch_badWord hf)⟩
  · obtain ⟨hconfig, hscript, hreturns⟩ := extendsReturns_microEffect (fetch_microStep hf)
    exact ⟨hconfig, hreturns, .inl hscript⟩

/-! ## The lost frame (R238) -/

/-- A step placed after micro-step 1 of a consuming operation is taken on the state that micro-step left; micro-step 2
then clears the ready flag, whatever that step made of it. -/
theorem Consumes.runSteps_afterFirst {i j : Instr} {clear last : HostPhase} {value : State → HostValue} {s w : State}
    {a : Placement} {rest : List Entry} (h : Consumes i clear last value) (hl : s.Live) (hidle : s.hostPhase = .idle)
    (hj : (∃ L, j = .edge L) ∨ j = .tick ∨ j = .ovf) (hn : NotApart rest)
    (hs : s.script = ⟨encode i, a⟩ :: ⟨encode j, .afterFirst⟩ :: rest)
    (hexec : exec j (begun clear rest s) = .next w) (hw : w.faulted = false) :
    runSteps 4 s = .next { w with
      codeReady := false, returns := s.returns ++ [value { w with codeReady := false, hostPhase := last }]
      hostPhase := .idle } := by
  have hbegin : step s = .next (begun clear (⟨encode j, .afterFirst⟩ :: rest) s) :=
    step_of_beginsAt h.begins hl hidle hs
  have hwf : j.wellFormed = true := by obtain ⟨L, rfl⟩ | rfl | rfl := hj <;> rfl
  have hd : decode (encode j) = .ok j := (decodeAgreesWithEncode _ j).mpr ⟨hwf, rfl⟩
  have hbetween : step (begun clear (⟨encode j, .afterFirst⟩ :: rest) s) = .next w :=
    (stepRunsDecodedOperation _ _ _ rest j rfl hd (.inr ⟨.inl rfl, hj⟩)).trans hexec
  have hkeep := keepsOperation_of_exec hj hexec
  obtain ⟨hconfig, -, hrefused⟩ := begun_live hl clear rest
  have hlw : w.Live := ⟨hkeep.config ▸ hconfig, hw, hkeep.refused.trans hrefused⟩
  have hphase : w.hostPhase = clear := hkeep.hostPhase
  have hnw : NotApart w.script := hkeep.script ▸ hn
  have hclear : step w = .next { w with codeReady := false, hostPhase := last } := by
    rw [step_of_notApart hlw (hphase ▸ h.clear_ne_idle) hnw, h.clears w hphase]
  rw [runSteps_add 3 (runSteps_one hbegin), runSteps_add 2 (runSteps_one hbetween),
    runSteps_add 1 (runSteps_one hclear),
    h.runSteps_last (t := { w with codeReady := false, hostPhase := last }) hlw rfl hnw, hkeep.returns]
  simp [begun]

/-- Settles O34: with no code ready UPDATE does nothing, the 32nd bit completes the frame, and micro-step 2 clears the flag
it set before any validation. -/
theorem commandLosesFrameCompletedMidway : Obligations.CommandLosesFrameCompletedMidway := by
  intro s a rest hl hidle hr hu hst hb hlo hhi hs hn
  have hbegun : begun .commandClear rest s = { s with script := rest, hostPhase := .commandClear } := by
    rw [begun, updateStep_of_not_ready hr, if_neg (by simp [hu])]
  have hbit := dataBitIsAccumulated { s with script := rest, hostPhase := .commandClear } hl hr hst hlo hhi
    (by simp [hb])
  have hexec := (congrArg (exec (.edge false)) hbegun).trans hbit
  rw [consumes_command.runSteps_afterFirst hl hidle (.inl ⟨false, rfl⟩) hn hs hexec]
  · simp [hb, hidle]
  · exact hl.2.1

end Sys2Proof.Machine
end

section
/-! PROOFS of the statement about reset (spec/10_state.md section 3, spec/70_reset_and_hazards.md section 1): the values of
the registers and of the default configuration. -/

namespace Sys2Proof.Machine

/-- Settles O55: both sides are the same record, once the default configuration is written out. -/
theorem resetState : Obligations.ResetState := rfl

end Sys2Proof.Machine
end
